-- ==== Sys2Proof/Word.lean ====
section
/-! DEFINITION. Word.lean: the widths PMU-FC works with (R7, R8) and the names of its four byte buffers (R60). -/

namespace Sys2Proof

/-- A byte: 8 bits (R8). -/
abbrev Byte := BitVec 8

/-- A 16-bit field of a frame or of the configuration (R7). -/
abbrev Half := BitVec 16

/-- A 32-bit register or field (R7). -/
abbrev Word := BitVec 32

/-- A byte sequence, index 0 first (R8). -/
abbrev Bytes := List Byte

/-- Sixteen single bytes, lowest index first: a station name or one channel name (R41, R52, R75). -/
abbrev Name16 := Vector Byte 16

/-- The four byte buffers, each its own address space addressed from 0 (R60, R70). -/
inductive Buffer where
  /-- `RXB`: frames and sample data presented to the block. -/
  | rxb
  /-- `TXB`: frames the block produces. -/
  | txb
  /-- `ARGB`: string operands, and the result of CFG.GET_STN. -/
  | argb
  /-- `HB`: the separately supplied 4-byte header block. -/
  | hb
deriving DecidableEq, Repr

/-- One register of a decoded sample of one PMU (R57); it names the registers whose value is open after DATA.BIND. -/
inductive SampleReg where
  | stat
  | phC0 (k : Nat)
  | phC1 (k : Nat)
  | an (k : Nat)
  | fdev
  | rocof
  | dig (k : Nat)
deriving DecidableEq, Repr

end Sys2Proof
end

