-- ==== Sys2Proof/Config.lean ====
section
/-! DEFINITION. Config.lean: what an implementation fixes (the parameters of R6) and the free values the spec leaves open. -/

namespace Sys2Proof

/-- The size of `HB` (R60). -/
def Config.hbBytes : Nat := 4

/-- What has a place in the host address space: the registers of 10_state.md section 1 and the four buffers (R6, R72). -/
inductive HostPlace where
  | cmd
  | a0
  | a1
  | a2
  | r0
  | r1
  | status
  | txLen
  | rxb
  | txb
  | argb
  | hb
deriving DecidableEq, Repr

/-- "register addresses" (R6): where each register sits in a host address space, and where each buffer's byte 0 sits. -/
structure RegisterMap where
  cmd : Nat
  a0 : Nat
  a1 : Nat
  a2 : Nat
  r0 : Nat
  r1 : Nat
  status : Nat
  txLen : Nat
  rxb : Nat
  txb : Nat
  argb : Nat
  hb : Nat
deriving DecidableEq, Repr

/-- The address of a place. -/
def RegisterMap.address (m : RegisterMap) : HostPlace → Nat
  | .cmd => m.cmd
  | .a0 => m.a0
  | .a1 => m.a1
  | .a2 => m.a2
  | .r0 => m.r0
  | .r1 => m.r1
  | .status => m.status
  | .txLen => m.txLen
  | .rxb => m.rxb
  | .txb => m.txb
  | .argb => m.argb
  | .hb => m.hb

/-- What DATA.BIND asks to have allocated for one PMU: the flags and counts it copies from the slot (R300). -/
structure BindShape where
  fmtCoord : Bool
  fmtPhw : Bool
  fmtAnw : Bool
  fmtFqw : Bool
  numPhasors : Half
  numAnalogs : Half
  numStatusWords : Half
deriving DecidableEq, Repr

/-- A bind request: all that DATA.BIND reads of `G` and `P` (R300). -/
structure BindRequest where
  numPmu : Half
  slots : List BindShape
deriving DecidableEq, Repr

/-- The parameters of R6, every one of its table a field: fixed for one machine, written by nothing. They are carried by State as plain data so that a statement about every state is a statement
about every value of them (assumption 2). -/
structure Params where
  /-- `CRC_SHIFT3`: 7, PMU's literal; 12 is the alternative (D5, C1). -/
  crcShift3 : Nat
  /-- `BUF_BYTES`: the size of `RXB` and of `TXB`, 65536 (D3). -/
  bufBytes : Nat
  /-- `ARG_BYTES`: the size of `ARGB`, 65536 (D3). -/
  argBytes : Nat
  /-- `MAX_PMU`: OPEN, 1 to 65535 (D4). -/
  maxPmu : Nat
  /-- `MAX_PHASORS`: OPEN, 1 to 65535 (D4). -/
  maxPhasors : Nat
  /-- `MAX_ANALOGS`: OPEN, 0 to 65535 (D4). -/
  maxAnalogs : Nat
  /-- `MAX_STATUS`: OPEN, 0 to 65535 (D4). -/
  maxStatus : Nat
  /-- `BindAllocOK`, a predicate of the bind request, as the list of the requests it is false of: none, since it is decided
  always true; the failing branch is kept (D25, assumption 2). -/
  bindRefused : List BindRequest
  /-- `NAMES_PER_STATUS_WORD`: 16; 1 is the alternative (D13). -/
  namesPerStatusWord : Nat
  /-- `NOMINAL_FREQ_DEFAULT`: OPEN, 0 or 1 (D11). -/
  nominalFreqDefault : Bool
  /-- `FMT_COORD_BIT` (D10). -/
  fmtCoordBit : Nat
  /-- `FMT_PHW_BIT` (D10). -/
  fmtPhwBit : Nat
  /-- `FMT_ANW_BIT` (D10). -/
  fmtAnwBit : Nat
  /-- `FMT_FQW_BIT` (D10). -/
  fmtFqwBit : Nat
  /-- `PH_TYPES`: the allowed measurement-type tags of a phasor (D12). -/
  phTypes : List Byte
  /-- `AN_TYPES`: the allowed measurement-type tags of an analog (D12). -/
  anTypes : List Byte
  /-- "register addresses": OPEN (D1). -/
  addresses : RegisterMap
deriving DecidableEq, Repr

/-- The size of each buffer (R60). -/
def Params.size (c : Params) : Buffer → Nat
  | .rxb => c.bufBytes
  | .txb => c.bufBytes
  | .argb => c.argBytes
  | .hb => Config.hbBytes

/-- `BindAllocOK` of a bind request (R6, R300). -/
def Params.bindAllocOk (c : Params) (r : BindRequest) : Bool := decide (r ∉ c.bindRefused)

/-- The open part of `MAX_PMU`, less one (R6: 1 to 65535). -/
opaque Config.maxPmuLessOne : Fin 65535

/-- The open part of `MAX_PHASORS`, less one (R6: 1 to 65535). -/
opaque Config.maxPhasorsLessOne : Fin 65535

/-- `MAX_ANALOGS` (R6: 0 to 65535). -/
opaque Config.maxAnalogsOpen : Fin 65536

/-- `MAX_STATUS` (R6: 0 to 65535). -/
opaque Config.maxStatusOpen : Fin 65536

/-- `NOMINAL_FREQ_DEFAULT` (R6, D11). -/
opaque Config.nominalFreqDefaultOpen : Bool

/-- "register addresses" (R6, D1). -/
opaque Config.registerAddressOpen : HostPlace → Nat

/-- FREE VALUE. What a byte of a buffer that neither the host nor an encoder has written since the latest reset reads as
(R62: "a model must treat every byte as unknown"; U10). The first argument counts the resets so far (assumption 3). -/
opaque Config.unwrittenByte : Nat → Buffer → Nat → Byte

/-- FREE VALUE. What a sample register holds between DATA.BIND and the decode that gives it a value (R58, R300, U9).
The arguments are the count of binds so far, the 1-based PMU index and the register (assumption 4). -/
opaque Config.unsetSample : Nat → Nat → SampleReg → Word

/-- The parameters at the values R6 gives, the OPEN ones at the opaque constants above. -/
def Config.params : Params where
  crcShift3 := 7
  bufBytes := 65536
  argBytes := 65536
  maxPmu := Config.maxPmuLessOne.val + 1
  maxPhasors := Config.maxPhasorsLessOne.val + 1
  maxAnalogs := Config.maxAnalogsOpen.val
  maxStatus := Config.maxStatusOpen.val
  bindRefused := []
  namesPerStatusWord := 16
  nominalFreqDefault := Config.nominalFreqDefaultOpen
  fmtCoordBit := 0
  fmtPhwBit := 1
  fmtAnwBit := 2
  fmtFqwBit := 3
  phTypes := [0, 1]
  anTypes := [0, 1, 2]
  addresses := {
    cmd := Config.registerAddressOpen .cmd
    a0 := Config.registerAddressOpen .a0
    a1 := Config.registerAddressOpen .a1
    a2 := Config.registerAddressOpen .a2
    r0 := Config.registerAddressOpen .r0
    r1 := Config.registerAddressOpen .r1
    status := Config.registerAddressOpen .status
    txLen := Config.registerAddressOpen .txLen
    rxb := Config.registerAddressOpen .rxb
    txb := Config.registerAddressOpen .txb
    argb := Config.registerAddressOpen .argb
    hb := Config.registerAddressOpen .hb }

/-- The ranges R6 gives the parameters; two format flags on one bit would lose one of them (R43). -/
def Params.wf (c : Params) : Bool :=
  decide ((c.crcShift3 = 7 ∨ c.crcShift3 = 12) ∧ c.bufBytes = 65536 ∧ c.argBytes = 65536 ∧
    (1 ≤ c.maxPmu ∧ c.maxPmu ≤ 65535) ∧ (1 ≤ c.maxPhasors ∧ c.maxPhasors ≤ 65535) ∧
    c.maxAnalogs ≤ 65535 ∧ c.maxStatus ≤ 65535 ∧
    (c.namesPerStatusWord = 16 ∨ c.namesPerStatusWord = 1) ∧
    (∀ b ∈ [c.fmtCoordBit, c.fmtPhwBit, c.fmtAnwBit, c.fmtFqwBit], b < 16) ∧
    [c.fmtCoordBit, c.fmtPhwBit, c.fmtAnwBit, c.fmtFqwBit].Nodup)

end Sys2Proof
end

