-- ==== Sys2Proof/Syntax.lean ====
section
/-! DEFINITION. Syntax.lean: the operations of R130, the SYNC words of R103 and the command words of R120, as terms. -/

namespace Sys2Proof

/-- `FLG[2]` (`BUFSEL`, R71, R131): the buffer a reading operation takes its bytes from. -/
inductive Source where
  /-- 0: `RXB`. -/
  | rxb
  /-- 1: `TXB`. -/
  | txb
deriving DecidableEq, Repr

/-- `FLG[5:4]` (`SCOPE`, R131, R259) of the six entry setters. -/
inductive Scope where
  /-- 0: one entry. -/
  | one
  /-- 1: every entry of PMU `PMUX` ("set all"). -/
  | all
  /-- 2: every entry of every PMU ("set all of all"). -/
  | allPmu
  /-- 3: the operation fails with `BAD_PARAM`. -/
  | reserved
deriving DecidableEq, Repr

/-- `CMD[15:0]` (`PMUX`, R20): a 1-based PMU index, used as an unsigned 16-bit number. -/
abbrev PmuIndex := Half

/-- What the opcode table lists: 70 operations selected by `CMD` (R130), six SYNC words (R103), and the eight classes of
command word (R120). An operation carries the modifier bits R131 lists for it and, where it takes one, its PMU index. -/
inductive Instr where
  -- CRC16
  | crcCompute (hdr : Bool) (src : Source)
  | crcGet (src : Source)
  | crcCheck (hdr : Bool) (src : Source)
  -- Frame Header Utilities
  | hdrType (src : Source)
  | hdrSize (src : Source)
  | hdrIdcode (strip : Bool) (src : Source)
  | hdrSoc (strip : Bool) (src : Source)
  | hdrFrac (strip rescale : Bool) (src : Source)
  | hdrStamp
  -- Configuration Model: table size and global fields
  | cfgSetPmuCount
  | cfgGetPmuCount
  | cfgSetGid
  | cfgGetGid
  | cfgSetTimeBase
  | cfgGetTimeBase
  | cfgSetDataRate
  | cfgGetDataRate
  | cfgSetSoc
  | cfgGetSoc
  | cfgSetFrac
  | cfgGetFrac
  -- Configuration Model: scalar fields of one PMU
  | cfgSetPid (p : PmuIndex)
  | cfgGetPid (p : PmuIndex)
  | cfgSetStn (p : PmuIndex)
  | cfgGetStn (p : PmuIndex)
  | cfgSetFnom (p : PmuIndex)
  | cfgGetFnom (p : PmuIndex)
  | cfgSetCcc (p : PmuIndex)
  | cfgGetCcc (p : PmuIndex)
  | cfgIncCcc (p : PmuIndex)
  -- Configuration Model: counts and channel names
  | cfgSetNph (p : PmuIndex)
  | cfgGetNph (p : PmuIndex)
  | cfgSetNan (p : PmuIndex)
  | cfgGetNan (p : PmuIndex)
  | cfgSetNst (p : PmuIndex)
  | cfgGetNst (p : PmuIndex)
  | cfgSetNames (p : PmuIndex)
  -- Configuration Model: data-format flags
  | cfgSetFmtCoord (p : PmuIndex)
  | cfgGetFmtCoord (p : PmuIndex)
  | cfgSetFmtPhw (p : PmuIndex)
  | cfgGetFmtPhw (p : PmuIndex)
  | cfgSetFmtAnw (p : PmuIndex)
  | cfgGetFmtAnw (p : PmuIndex)
  | cfgSetFmtFqw (p : PmuIndex)
  | cfgGetFmtFqw (p : PmuIndex)
  -- Configuration Model: conversion factors, measurement types and status masks
  | cfgSetPhf (p : PmuIndex) (scope : Scope)
  | cfgSetPht (p : PmuIndex) (scope : Scope)
  | cfgGetPhf (p : PmuIndex)
  | cfgGetPht (p : PmuIndex)
  | cfgSetAnf (p : PmuIndex) (scope : Scope)
  | cfgSetAnt (p : PmuIndex) (scope : Scope)
  | cfgGetAnf (p : PmuIndex)
  | cfgGetAnt (p : PmuIndex)
  | cfgSetMskn (p : PmuIndex) (scope : Scope)
  | cfgSetMskv (p : PmuIndex) (scope : Scope)
  | cfgGetMskn (p : PmuIndex)
  | cfgGetMskv (p : PmuIndex)
  -- frame builders and the command classifier
  | cfgEncode
  | hdrfBuild (present : Bool)
  | cmdClassify (frame : Bool) (src : Source)
  -- Data Frame Codec
  | dataBind
  | dataDecode (ich : Bool) (src : Source)
  | dataEncode
  | dataSize (p : PmuIndex)
  | dataGetPhasor (p : PmuIndex)
  | dataGetAnalog (p : PmuIndex)
  | dataGetFreq (p : PmuIndex)
  | dataGetRocof (p : PmuIndex)
  | dataGetStat (p : PmuIndex)
  | dataGetDig (p : PmuIndex)
  -- SYNC words
  | syncData
  | syncHeader
  | syncConfig1
  | syncConfig2
  | syncCommand
  | syncConfig3
  -- command words
  | cmdwDataOff
  | cmdwDataOn
  | cmdwSendHdr
  | cmdwSendConfig1
  | cmdwSendConfig2
  | cmdwSendConfig3
  | cmdwExtendedFrame
  | cmdwUser (w : Half)
deriving DecidableEq, Repr

/-- An instruction as the block meets it: a 32-bit operation word in `CMD` (R130), or a 16-bit word of a frame (R103,
R120), which stands in a buffer most significant byte first (R73). -/
inductive Code where
  | cmd (w : Word)
  | wire (w : Half)
deriving DecidableEq, Repr

/-- Why a word is no instruction. -/
inductive DecodeError where
  /-- `CMD[31:24]` is not in the table of R130 (R132). -/
  | illegalOp (op : Byte)
  /-- A SYNC word outside R103's table (R125a). -/
  | invalidSync (w : Half)
  /-- A command word outside R120's rows (R125c). -/
  | invalidCommand (w : Half)
deriving DecidableEq, Repr

/-- The frame kinds of R103 with INVALID (R133). -/
inductive FrameKind where
  | invalid
  | data
  | header
  | config1
  | config2
  | command
  | config3
deriving DecidableEq, Repr

/-- The command kinds of R120 with INVALID and RESERVED, the kind nothing produces (R133, R292). -/
inductive CommandKind where
  | invalid
  | dataOff
  | dataOn
  | sendHdr
  | sendConfig1
  | sendConfig2
  | sendConfig3
  | extendedFrame
  | user
  | reserved
deriving DecidableEq, Repr

end Sys2Proof
end

