-- ==== Sys2Proof/Machine/State.lean ====
section
/-! DEFINITION. Machine/State.lean: the state of PMU-FC (10_state.md), the ways an operation ends, and reset (R62). -/

namespace Sys2Proof.Machine

/-- The failures of R340, in the order of their codes 1 to 14. -/
inductive Failure where
  | malformedFrame
  | crcMismatch
  | allocationFailure
  | indexOutOfRange
  | overrun
  | notBound
  | noSample
  | textAbsent
  | sizeOverflow
  | badParam
  | precondition
  | unsupported
  | illegalOp
  | namesShort
deriving DecidableEq, Repr

/-- Why the machine stops. A failed operation is no fault: it is a next state (R341). -/
inductive Fault where
  /-- Raised by `step` where the host writes a byte to an address its buffer does not have (R60, R72). Safe: the spec gives
  no such access a meaning, and the model stops. -/
  | noSuchAddress (b : Buffer) (addr : Nat)
  /-- Raised by `step` where the host stores to an address of its address space at which nothing sits that a store of that
  width may write (R6, R72, assumption 9). Safe: the spec gives no such store a meaning, and the model stops. -/
  | noHostAddress (addr : Nat)
deriving DecidableEq, Repr

/-- Why an instruction is refused. -/
inductive Refusal where
  /-- Raised by `exec` on an instruction that has no meaning yet: none in this model. Safe: the model stops. -/
  | notModelled (mnemonic : String)
deriving DecidableEq, Repr

/-- The bytes of one buffer that have been written, each with its address, addresses strictly rising (R60). An unlisted
address holds no known byte. -/
abbrev Memory := List Host.Cell

/-- The canonical form of a memory of `size` bytes: addresses strictly rising, all below `size`. No entry can equal what an
unlisted address holds, which is no known byte. -/
def Memory.wf (size : Nat) (m : Memory) : Bool :=
  decide (m.Pairwise (fun x y => x.1 < y.1) ∧ ∀ c ∈ m, c.1 < size)

/-- `G`, the global configuration (R30 to R36). -/
structure Global where
  idCode : Half
  numPmu : Half
  timeBase : Word
  epochSeconds : Word
  fracOfSecond : Word
  dataRate : Half
deriving DecidableEq, Repr

/-- `P[p]`, the slot of one PMU (R40 to R50). -/
structure PmuSlot where
  stationName : Name16
  idCode : Half
  fmtCoord : Bool
  fmtPhw : Bool
  fmtAnw : Bool
  fmtFqw : Bool
  numPhasors : Half
  numAnalogs : Half
  numStatusWords : Half
  namesBound : Bool
  namesHandle : Word
  convFactorPhasor : List Word
  convFactorAnalog : List Word
  statusWordMasks : List Word
  nominalFreq : Bool
  confChangeCount : Half
deriving DecidableEq, Repr

/-- The three per-entry arrays of a slot (R46 to R48). -/
inductive EntryArray where
  | phasor
  | analog
  | mask
deriving DecidableEq, Repr

/-- A sample value: a bit pattern of 16 or of 32 bits (R57, R301). -/
inductive Value where
  | int16 (v : Half)
  | float32 (v : Word)
deriving DecidableEq, Repr

/-- `D`, the data codec's flags (R55, R58). -/
structure Codec where
  bound : Bool
  boundN : Half
  sampleValid : Bool
  statValid : Bool
deriving DecidableEq, Repr

/-- `S[p]`, the snapshot and the sample of one bound PMU (R56, R57). -/
structure SampleSlot where
  snapCoord : Bool
  snapPhw : Bool
  snapAnw : Bool
  snapFqw : Bool
  snapNph : Half
  snapNan : Half
  snapNst : Half
  stat : Half
  ph : List (Value × Value)
  an : List Value
  fdev : Value
  rocof : Value
  dig : List Half
deriving DecidableEq, Repr

/-- The operand registers (R21). -/
inductive OperandReg where
  | a0
  | a1
  | a2
deriving DecidableEq, Repr

/-- What the host can do to the block between operations (R20, R21, R52, R60, R370), named by what it reaches or, on a
platform that maps the block into an address space, by an address (R6, R72). Reads change nothing (R78) and are no steps. -/
inductive HostAccess where
  /-- Write `CMD`: starts one operation. -/
  | writeCmd (w : Word)
  /-- Write an operand register. -/
  | writeOperand (r : OperandReg) (w : Word)
  /-- Write one byte of a buffer. -/
  | writeByte (b : Buffer) (addr : Nat) (v : Byte)
  /-- Make the list under a handle of the channel-name store the given one. -/
  | setNames (h : Word) (names : List Name16)
  /-- Assert reset. -/
  | reset
  /-- Store a word to the register at an address of the host address space (R6, R72). -/
  | storeWord (addr : Nat) (w : Word)
  /-- Store a byte to the buffer byte at an address of the host address space (R6, R72). -/
  | storeByte (addr : Nat) (v : Byte)
deriving DecidableEq, Repr

/-- The machine. The fields up to `samples` are the block's own state; `names` is the host's channel-name store; the last
four are the model's. -/
structure State where
  cmd : Word
  a0 : Word
  a1 : Word
  a2 : Word
  r0 : Word
  r1 : Word
  status : Byte
  cur : Option (BitVec 17)
  txLen : Half
  g : Global
  pmus : List PmuSlot
  d : Codec
  samples : List SampleSlot
  rxb : Memory
  txb : Memory
  argb : Memory
  hb : Memory
  names : List (Word × List Name16)
  host : List HostAccess
  params : Params
  resets : Nat
  binds : Nat
deriving DecidableEq, Repr

/-- One step's or one meaning's answer. -/
abbrev Result := Host.Outcome State Fault Refusal

/-- `G` after reset (R62). -/
def Global.reset : Global where
  idCode := 0
  numPmu := 0
  timeBase := 0
  epochSeconds := 0
  fracOfSecond := 0
  dataRate := 0

/-- `D` after reset: unbound (R62). -/
def Codec.unbound : Codec where
  bound := false
  boundN := 0
  sampleValid := false
  statValid := false

/-- The machine right after reset (R62, R370). The name store, the host's accesses and the two counters are not the
block's: their values are assumptions 1, 3, 4 and 5. -/
def State.reset : State where
  cmd := 0
  a0 := 0
  a1 := 0
  a2 := 0
  r0 := 0
  r1 := 0
  status := 0
  cur := none
  txLen := 0
  g := Global.reset
  pmus := []
  d := Codec.unbound
  samples := []
  rxb := []
  txb := []
  argb := []
  hb := []
  names := []
  host := []
  params := Config.params
  resets := 0
  binds := 0

end Sys2Proof.Machine
end

