-- ==== Sys2Proof/Machine/Ops.lean ====
section
/-! DEFINITION. Machine/Ops.lean: the named operations over buffers and registers, and the ways an operation ends: `done`
(R342) and `fail` (R341), the block's one way of taking a failure. There is no return from a failure (R344). -/

namespace Sys2Proof.Machine

/-! ### One buffer -/

/-- The byte written at an address, if one has been. -/
def Memory.lookup : Memory → Nat → Option Byte
  | [], _ => none
  | (b, v) :: m, a => if a = b then some v else Memory.lookup m a

/-- Writes one byte, keeping the addresses strictly rising. -/
def Memory.insert : Memory → Nat → Byte → Memory
  | [], a, v => [(a, v)]
  | (b, w) :: m, a, v =>
    if a < b then (a, v) :: (b, w) :: m
    else if a = b then (a, v) :: m
    else (b, w) :: Memory.insert m a v

/-- Writes a byte sequence from an address upward (R75: a sequence has no byte order). -/
def Memory.insertBytes : Memory → Nat → Bytes → Memory
  | m, _, [] => m
  | m, a, v :: vs => Memory.insertBytes (Memory.insert m a v) (a + 1) vs

/-! ### The buffers of a state -/

/-- The buffer's contents (R60). -/
def State.mem (s : State) : Buffer → Memory
  | .rxb => s.rxb
  | .txb => s.txb
  | .argb => s.argb
  | .hb => s.hb

/-- The state with a buffer's contents replaced. -/
def State.withMem (s : State) (b : Buffer) (m : Memory) : State :=
  match b with
  | .rxb => { s with rxb := m }
  | .txb => { s with txb := m }
  | .argb => { s with argb := m }
  | .hb => { s with hb := m }

/-- `MemRead(buf, a, 1)` (R76). A byte nothing has written since reset reads as a free value, the same at every read
(R62, R78, assumption 3). -/
def State.readByte (s : State) (b : Buffer) (a : Nat) : Byte :=
  ((s.mem b).lookup a).getD (Config.unwrittenByte s.resets b a)

/-- `MemRead(buf, a, 2)`: big-endian (R73, R76). -/
def State.read16 (s : State) (b : Buffer) (a : Nat) : Half :=
  s.readByte b a ++ s.readByte b (a + 1)

/-- `MemRead(buf, a, 4)`: big-endian (R73, R76). -/
def State.read32 (s : State) (b : Buffer) (a : Nat) : Word :=
  s.read16 b a ++ s.read16 b (a + 2)

/-- The bytes `buf[a .. a+n)` (R8). -/
def State.readBytes (s : State) (b : Buffer) : Nat → Nat → Bytes
  | _, 0 => []
  | a, n + 1 => s.readByte b a :: State.readBytes s b (a + 1) n

/-- Stores a byte sequence at `buf[a ..)`. -/
def State.writeBytes (s : State) (b : Buffer) (a : Nat) (bs : Bytes) : State :=
  s.withMem b ((s.mem b).insertBytes a bs)

/-- `bytes_be(v, 2)` (R8, R76). -/
def bytesBe16 (v : Half) : Bytes := [v.extractLsb' 8 8, v.extractLsb' 0 8]

/-- `bytes_be(v, 4)` (R8, R76). -/
def bytesBe32 (v : Word) : Bytes :=
  [v.extractLsb' 24 8, v.extractLsb' 16 8, v.extractLsb' 8 8, v.extractLsb' 0 8]

/-! ### The status codes and the end of an operation -/

/-- The `STATUS` code of a failure (R340). -/
def Failure.code : Failure → Byte
  | .malformedFrame => 1
  | .crcMismatch => 2
  | .allocationFailure => 3
  | .indexOutOfRange => 4
  | .overrun => 5
  | .notBound => 6
  | .noSample => 7
  | .textAbsent => 8
  | .sizeOverflow => 9
  | .badParam => 10
  | .precondition => 11
  | .unsupported => 12
  | .illegalOp => 13
  | .namesShort => 14

/-- Every operation writes `STATUS`, `R0` and `R1` when it ends (R22, R23). -/
def State.ended (s : State) (status : Byte) (r0 r1 : Word) : State :=
  { s with status := status, r0 := r0, r1 := r1 }

/-- The state a failed operation leaves: the failure's code in `STATUS`, the sentinel 0 in `R0` and `R1`, nothing else
changed (R341). -/
def State.fail (s : State) (e : Failure) : State := s.ended e.code 0 0

/-- `fail E` (R9, R341). -/
def State.failed (s : State) (e : Failure) : Result := .next (s.fail e)

/-- `done` with the two results; a result the rule does not name is 0 (R9, R342). -/
def State.done (s : State) (r0 r1 : Word) : Result := .next (s.ended 0 r0 r1)

/-! ### Register groups -/

/-- The state with `G` replaced. -/
def State.withG (s : State) (g : Global) : State := { s with g := g }

/-- The state with the slot table replaced. -/
def State.withPmus (s : State) (ps : List PmuSlot) : State := { s with pmus := ps }

/-- The state with the data codec's registers `D` and `S` replaced. -/
def State.withCodec (s : State) (d : Codec) (ss : List SampleSlot) : State := { s with d := d, samples := ss }

/-- An encoder's frame: its bytes in `TXB[0 ..)`, its length in `TX_LEN`; `CUR`, which ran over the frame, has no value
after the operation (R24, R25). Bytes of `TXB` past the frame keep their contents (R260). -/
def State.emitFrame (s : State) (frame : Bytes) : State :=
  { s with txb := s.txb.insertBytes 0 frame, txLen := BitVec.ofNat 16 frame.length, cur := none }

/-- A successful encoder: the frame, and `R0` = `TX_LEN` = its length (R260, R280, R307). -/
def State.frameDone (s : State) (frame : Bytes) : Result :=
  (s.emitFrame frame).done (BitVec.ofNat 32 frame.length) 0

end Sys2Proof.Machine
end

