-- ==== Sys2Proof/Machine/Flags.lean ====
section
/-! DEFINITION. Machine/Flags.lean: the register codes of enumerated results (R133), the two classifiers (R103, R120), and
the packed flag words (R121, R122). `STATUS`, the block's only flag register (R23), is written by `State.ended`. -/

namespace Sys2Proof.Machine

/-- The result code of a frame kind (R133). -/
def frameKindCode : FrameKind → Word
  | .invalid => 0
  | .data => 1
  | .header => 2
  | .config1 => 3
  | .config2 => 4
  | .command => 5
  | .config3 => 6

/-- The result code of a command kind (R133); RESERVED has a code and is never produced (R292). -/
def commandKindCode : CommandKind → Word
  | .invalid => 0
  | .dataOff => 1
  | .dataOn => 2
  | .sendHdr => 3
  | .sendConfig1 => 4
  | .sendConfig2 => 5
  | .sendConfig3 => 6
  | .extendedFrame => 7
  | .user => 8
  | .reserved => 9

/-- The frame kind of the two bytes of a SYNC word; the type byte is compared whole (R103, R125a, R170). -/
def frameKindOf (b0 b1 : Byte) : FrameKind :=
  if b0 = 0xAA then
    if b1 = 0x01 then .data
    else if b1 = 0x11 then .header
    else if b1 = 0x21 then .config1
    else if b1 = 0x31 then .config2
    else if b1 = 0x41 then .command
    else if b1 = 0x52 then .config3
    else .invalid
  else .invalid

/-- The kind of a command word (R120, R290). -/
def commandKindOf (w : Half) : CommandKind :=
  if w = 0x0001 then .dataOff
  else if w = 0x0002 then .dataOn
  else if w = 0x0003 then .sendHdr
  else if w = 0x0004 then .sendConfig1
  else if w = 0x0005 then .sendConfig2
  else if w = 0x0006 then .sendConfig3
  else if w = 0x0008 then .extendedFrame
  else if w &&& 0x0F00 = 0x0F00 then .user
  else .invalid

/-- A one-bit field in a 32-bit result register (R133: false 0, true 1). -/
def boolWord (b : Bool) : Word := if b then 1 else 0

/-- A one-bit flag takes 1 when its operand is non-zero (R200c). -/
def flagOf (w : Word) : Bool := w ≠ 0

/-- `data_format16` (R121): the four flags at their bit positions, every other bit 0. -/
def dataFormat16 (c : Params) (x : PmuSlot) : Half :=
  (if x.fmtFqw then (1 : Half) <<< c.fmtFqwBit else 0) ||| (if x.fmtAnw then (1 : Half) <<< c.fmtAnwBit else 0) |||
  (if x.fmtPhw then (1 : Half) <<< c.fmtPhwBit else 0) ||| (if x.fmtCoord then (1 : Half) <<< c.fmtCoordBit else 0)

/-- `nominal_freq16` (R122): bit 0 is the flag, the others 0. -/
def nominalFreq16 (x : PmuSlot) : Half := if x.nominalFreq then 1 else 0

/-- A measurement-type tag the getter validates: the tag if it is allowed, else INVALID, 0xFF (R133, R250, R254). -/
def typeResult (allowed : List Byte) (tag : Byte) : Word :=
  if tag ∈ allowed then tag.setWidth 32 else 0xFF

end Sys2Proof.Machine
end

