-- ==== Sys2Proof/Machine/Operands.lean ====
section
/-! DEFINITION. Machine/Operands.lean: the operand forms: the source buffer (R71), a presented byte range (R77, R174), a PMU
index and an entry index (R11, R200a), an entry's packed halves (R123), and a scope (R259). -/

namespace Sys2Proof.Machine

/-- `SRC`: the buffer `FLG[2]` selects (R71). -/
def srcBuffer : Source → Buffer
  | .rxb => .rxb
  | .txb => .txb

/-- The range check of R77 on the presented bytes `SRC[A0 .. A0+A1)`, the sum taken without wrap. -/
def State.presentedFits (s : State) : Bool := decide (s.a0.toNat + s.a1.toNat ≤ s.params.bufBytes)

/-- The common form of the extraction operations (R174): the presented bytes lie in the buffer, and at least `need` of them
are presented. -/
def extraction (s : State) (need : Nat) (body : Result) : Result :=
  if s.presentedFits = false then s.failed .overrun
  else if s.a1.toNat < need then s.failed .malformedFrame
  else body

/-- A header field's offset from the first presented byte: with `STRIP` the SYNC word's two bytes have been removed (R174). -/
def fieldOffset (strip : Bool) (offset : Nat) : Nat := if strip then offset - 2 else offset

/-- The slot a 1-based index names, if it exists (R11, R40). -/
def State.slot (s : State) (p : PmuIndex) : Option PmuSlot :=
  if 1 ≤ p.toNat ∧ p.toNat ≤ s.g.numPmu.toNat then s.pmus[p.toNat - 1]? else none

/-- The state with slot `p` replaced. -/
def State.withSlot (s : State) (p : PmuIndex) (x : PmuSlot) : State := s.withPmus (s.pmus.set (p.toNat - 1) x)

/-- An operation on one slot: the index check of R200a, then the body. -/
def onSlot (s : State) (p : PmuIndex) (body : PmuSlot → Result) : Result :=
  match s.slot p with
  | none => s.failed .indexOutOfRange
  | some x => body x

/-- A getter of a slot: the field in `R0` (R200d). -/
def getSlot (s : State) (p : PmuIndex) (field : PmuSlot → Word) : Result :=
  onSlot s p fun x => s.done (field x) 0

/-- A setter of a slot. -/
def setSlot (s : State) (p : PmuIndex) (update : PmuSlot → PmuSlot) : Result :=
  onSlot s p fun x => (s.withSlot p (update x)).done 0 0

/-! ### Per-entry arrays -/

/-- The array's entries, entry 1 first (R46 to R48). -/
def EntryArray.entries : EntryArray → PmuSlot → List Word
  | .phasor, x => x.convFactorPhasor
  | .analog, x => x.convFactorAnalog
  | .mask, x => x.statusWordMasks

/-- The array's count register (R44). -/
def EntryArray.count : EntryArray → PmuSlot → Half
  | .phasor, x => x.numPhasors
  | .analog, x => x.numAnalogs
  | .mask, x => x.numStatusWords

/-- The array's capacity (R6, R44). -/
def EntryArray.capacity : EntryArray → Params → Nat
  | .phasor, c => c.maxPhasors
  | .analog, c => c.maxAnalogs
  | .mask, c => c.maxStatus

/-- The slot with the array's entries replaced. -/
def EntryArray.withEntries (arr : EntryArray) (x : PmuSlot) (ws : List Word) : PmuSlot :=
  match arr with
  | .phasor => { x with convFactorPhasor := ws }
  | .analog => { x with convFactorAnalog := ws }
  | .mask => { x with statusWordMasks := ws }

/-- The slot with the array's count and entries replaced. -/
def EntryArray.resized (arr : EntryArray) (x : PmuSlot) (n : Half) (ws : List Word) : PmuSlot :=
  match arr with
  | .phasor => { x with numPhasors := n, convFactorPhasor := ws }
  | .analog => { x with numAnalogs := n, convFactorAnalog := ws }
  | .mask => { x with numStatusWords := n, statusWordMasks := ws }

/-- The resize law (R239): past the capacity it fails; to the same count it changes nothing; to another it clears. -/
def resizeEntries (s : State) (arr : EntryArray) (p : PmuIndex) : Result :=
  onSlot s p fun x =>
    if s.a0.toNat > arr.capacity s.params then s.failed .allocationFailure
    else if s.a0.toNat = (arr.count x).toNat then s.done 0 0
    else (s.withSlot p (arr.resized x (s.a0.setWidth 16) (List.replicate s.a0.toNat 0))).done 0 0

/-- The low 24 bits of an entry: a conversion factor (R46, R123). -/
def factorOf (w : Word) : Word := w &&& 0x00FFFFFF

/-- Bits 31:24 of an entry: its measurement-type tag (R46, R123). -/
def tagOf (w : Word) : Byte := w.extractLsb' 24 8

/-- Bits 31:16 of a mask: the normal state (R48, R123). -/
def normalOf (w : Word) : Half := w.extractLsb' 16 16

/-- Bits 15:0 of a mask: the validity (R48, R123). -/
def validityOf (w : Word) : Half := w.extractLsb' 0 16

/-- Writes the factor, keeps the tag (R247). -/
def setFactor (w v : Word) : Word := (w &&& 0xFF000000) ||| (v &&& 0x00FFFFFF)

/-- Writes the tag, keeps the factor (R248). -/
def setTag (w v : Word) : Word := ((v &&& 0xFF) <<< 24) ||| (w &&& 0x00FFFFFF)

/-- Writes the normal-state half, keeps the validity half (R255). -/
def setNormal (w v : Word) : Word := ((v &&& 0xFFFF) <<< 16) ||| (w &&& 0x0000FFFF)

/-- Writes the validity half, keeps the normal-state half (R256). -/
def setValidity (w v : Word) : Word := (w &&& 0xFFFF0000) ||| (v &&& 0xFFFF)

/-- The 1-based entry index `k` lies within `count` (R11). -/
def entryIndexOk (k : Word) (count : Half) : Bool := decide (1 ≤ k.toNat ∧ k.toNat ≤ count.toNat)

/-- Entry `k` of a list, 1-based; an entry past a list shorter than its count, which no reachable state has (R51), reads 0. -/
def entryAt (ws : List Word) (k : Word) : Word := ws.getD (k.toNat - 1) 0

/-- The array with every entry updated by `upd` (R259). -/
def EntryArray.updateAll (arr : EntryArray) (upd : Word → Word) (x : PmuSlot) : PmuSlot :=
  arr.withEntries x ((arr.entries x).map upd)

/-- The scope law (R259): one entry, every entry of one PMU, every entry of every PMU, or `BAD_PARAM`. -/
def setEntries (s : State) (arr : EntryArray) (p : PmuIndex) (scope : Scope) (upd : Word → Word) : Result :=
  match scope with
  | .reserved => s.failed .badParam
  | .one => onSlot s p fun x =>
      if entryIndexOk s.a0 (arr.count x) = false then s.failed .indexOutOfRange
      else (s.withSlot p (arr.withEntries x
        ((arr.entries x).set (s.a0.toNat - 1) (upd (entryAt (arr.entries x) s.a0))))).done 0 0
  | .all => onSlot s p fun x => (s.withSlot p (arr.updateAll upd x)).done 0 0
  | .allPmu => (s.withPmus (s.pmus.map (arr.updateAll upd))).done 0 0

/-- An entry getter: index checks, then the result made from entry `A0` (R249, R250, R253, R254, R257, R258). -/
def getEntry (s : State) (arr : EntryArray) (p : PmuIndex) (result : Word → Word) : Result :=
  onSlot s p fun x =>
    if entryIndexOk s.a0 (arr.count x) = false then s.failed .indexOutOfRange
    else s.done (result (entryAt (arr.entries x) s.a0)) 0

end Sys2Proof.Machine
end

