-- ==== Sys2Proof/Machine/CfgEntries.lean ====
section
/-! DEFINITION. Machine/CfgEntries.lean: the Configuration Model's counts, channel names, conversion factors, measurement
types and status masks (43_config_entries_encode.md, R239 to R259). -/

namespace Sys2Proof.Machine

/-- CFG.SET_NPH (R240). -/
def execCfgSetNph (p : PmuIndex) (s : State) : Result := resizeEntries s .phasor p

/-- CFG.GET_NPH (R243). -/
def execCfgGetNph (p : PmuIndex) (s : State) : Result := getSlot s p fun x => x.numPhasors.setWidth 32

/-- CFG.SET_NAN (R241). -/
def execCfgSetNan (p : PmuIndex) (s : State) : Result := resizeEntries s .analog p

/-- CFG.GET_NAN (R244). -/
def execCfgGetNan (p : PmuIndex) (s : State) : Result := getSlot s p fun x => x.numAnalogs.setWidth 32

/-- CFG.SET_NST (R242). -/
def execCfgSetNst (p : PmuIndex) (s : State) : Result := resizeEntries s .mask p

/-- CFG.GET_NST (R245). -/
def execCfgGetNst (p : PmuIndex) (s : State) : Result := getSlot s p fun x => x.numStatusWords.setWidth 32

/-- CFG.SET_NAMES (R246): stores the handle, reads nothing from the store; handle 0 unbinds. -/
def execCfgSetNames (p : PmuIndex) (s : State) : Result :=
  onSlot s p fun x =>
    if x.numPhasors.toNat < 1 then s.failed .precondition
    else (s.withSlot p { x with namesHandle := s.a0, namesBound := s.a0 ≠ 0 }).done 0 0

/-- CFG.SET_PHF (R247). -/
def execCfgSetPhf (p : PmuIndex) (scope : Scope) (s : State) : Result :=
  setEntries s .phasor p scope fun w => setFactor w s.a1

/-- CFG.SET_PHT (R248): any 8-bit tag is stored. -/
def execCfgSetPht (p : PmuIndex) (scope : Scope) (s : State) : Result :=
  setEntries s .phasor p scope fun w => setTag w s.a1

/-- CFG.GET_PHF (R249). -/
def execCfgGetPhf (p : PmuIndex) (s : State) : Result := getEntry s .phasor p factorOf

/-- CFG.GET_PHT (R250). -/
def execCfgGetPht (p : PmuIndex) (s : State) : Result :=
  getEntry s .phasor p fun w => typeResult s.params.phTypes (tagOf w)

/-- CFG.SET_ANF (R251). -/
def execCfgSetAnf (p : PmuIndex) (scope : Scope) (s : State) : Result :=
  setEntries s .analog p scope fun w => setFactor w s.a1

/-- CFG.SET_ANT (R252): any 8-bit tag is stored. -/
def execCfgSetAnt (p : PmuIndex) (scope : Scope) (s : State) : Result :=
  setEntries s .analog p scope fun w => setTag w s.a1

/-- CFG.GET_ANF (R253). -/
def execCfgGetAnf (p : PmuIndex) (s : State) : Result := getEntry s .analog p factorOf

/-- CFG.GET_ANT (R254). -/
def execCfgGetAnt (p : PmuIndex) (s : State) : Result :=
  getEntry s .analog p fun w => typeResult s.params.anTypes (tagOf w)

/-- CFG.SET_MSKN (R255). -/
def execCfgSetMskn (p : PmuIndex) (scope : Scope) (s : State) : Result :=
  setEntries s .mask p scope fun w => setNormal w s.a1

/-- CFG.SET_MSKV (R256). -/
def execCfgSetMskv (p : PmuIndex) (scope : Scope) (s : State) : Result :=
  setEntries s .mask p scope fun w => setValidity w s.a1

/-- CFG.GET_MSKN (R257). -/
def execCfgGetMskn (p : PmuIndex) (s : State) : Result := getEntry s .mask p fun w => (normalOf w).setWidth 32

/-- CFG.GET_MSKV (R258). -/
def execCfgGetMskv (p : PmuIndex) (s : State) : Result := getEntry s .mask p fun w => (validityOf w).setWidth 32

end Sys2Proof.Machine
end

