-- ==== Sys2Proof/Machine/CfgScalars.lean ====
section
/-! DEFINITION. Machine/CfgScalars.lean: the Configuration Model's table size, global fields, scalar fields of one PMU and
data-format flags (42_config_scalars.md). -/

namespace Sys2Proof.Machine

/-- A PMU slot as CFG.SET_PMU_COUNT creates it (R63). -/
def freshSlot (c : Params) : PmuSlot where
  stationName := Vector.replicate 16 0
  idCode := 0
  fmtCoord := false
  fmtPhw := false
  fmtAnw := false
  fmtFqw := false
  numPhasors := 0
  numAnalogs := 0
  numStatusWords := 0
  namesBound := false
  namesHandle := 0
  convFactorPhasor := []
  convFactorAnalog := []
  statusWordMasks := []
  nominalFreq := c.nominalFreqDefault
  confChangeCount := 0

/-- CFG.SET_PMU_COUNT (R201): slots up to the smaller count keep every field, new slots are fresh. -/
def execCfgSetPmuCount (s : State) : Result :=
  if s.a0.toNat > s.params.maxPmu then s.failed .allocationFailure
  else (({ s with
      pmus := s.pmus.take s.a0.toNat ++ List.replicate (s.a0.toNat - s.g.numPmu.toNat) (freshSlot s.params) } : State).withG
    { s.g with numPmu := s.a0.setWidth 16 }).done 0 0

/-- CFG.GET_PMU_COUNT (R202). -/
def execCfgGetPmuCount (s : State) : Result := s.done (s.g.numPmu.setWidth 32) 0

/-- CFG.SET_GID (R203). -/
def execCfgSetGid (s : State) : Result := (s.withG { s.g with idCode := s.a0.setWidth 16 }).done 0 0

/-- CFG.GET_GID (R204). -/
def execCfgGetGid (s : State) : Result := s.done (s.g.idCode.setWidth 32) 0

/-- CFG.SET_TIME_BASE (R205). -/
def execCfgSetTimeBase (s : State) : Result := (s.withG { s.g with timeBase := s.a0 }).done 0 0

/-- CFG.GET_TIME_BASE (R206). -/
def execCfgGetTimeBase (s : State) : Result := s.done s.g.timeBase 0

/-- CFG.SET_DATA_RATE (R207). -/
def execCfgSetDataRate (s : State) : Result := (s.withG { s.g with dataRate := s.a0.setWidth 16 }).done 0 0

/-- CFG.GET_DATA_RATE (R208): the 16-bit pattern, not sign-extended. -/
def execCfgGetDataRate (s : State) : Result := s.done (s.g.dataRate.setWidth 32) 0

/-- CFG.SET_SOC (R209). -/
def execCfgSetSoc (s : State) : Result := (s.withG { s.g with epochSeconds := s.a0 }).done 0 0

/-- CFG.GET_SOC (R210). -/
def execCfgGetSoc (s : State) : Result := s.done s.g.epochSeconds 0

/-- CFG.SET_FRAC (R212): all 32 bits. -/
def execCfgSetFrac (s : State) : Result := (s.withG { s.g with fracOfSecond := s.a0 }).done 0 0

/-- CFG.GET_FRAC (R213). -/
def execCfgGetFrac (s : State) : Result := s.done s.g.fracOfSecond 0

/-- CFG.SET_PID (R214). -/
def execCfgSetPid (p : PmuIndex) (s : State) : Result := setSlot s p fun x => { x with idCode := s.a0.setWidth 16 }

/-- CFG.GET_PID (R215). -/
def execCfgGetPid (p : PmuIndex) (s : State) : Result := getSlot s p fun x => x.idCode.setWidth 32

/-- The station name R211 stores: the first `min(A0, 16)` bytes of `ARGB`, then spaces. -/
def paddedName (s : State) : Name16 :=
  Vector.ofFn fun i => if i.val < s.a0.toNat then s.readByte .argb i.val else 0x20

/-- CFG.SET_STN (R211). -/
def execCfgSetStn (p : PmuIndex) (s : State) : Result :=
  onSlot s p fun x =>
    if s.a0.toNat > s.params.argBytes then s.failed .overrun
    else (s.withSlot p { x with stationName := paddedName s }).done 0 0

/-- CFG.GET_STN (R216): sixteen bytes to `ARGB[0..16)`, no terminator. -/
def execCfgGetStn (p : PmuIndex) (s : State) : Result :=
  onSlot s p fun x => (s.writeBytes .argb 0 x.stationName.toList).done 16 0

/-- CFG.SET_FNOM (R217): 60 stores 0, every other value 1. -/
def execCfgSetFnom (p : PmuIndex) (s : State) : Result := setSlot s p fun x => { x with nominalFreq := s.a0 ≠ 60 }

/-- CFG.GET_FNOM (R218). -/
def execCfgGetFnom (p : PmuIndex) (s : State) : Result := getSlot s p fun x => if x.nominalFreq then 50 else 60

/-- CFG.SET_CCC (R222). -/
def execCfgSetCcc (p : PmuIndex) (s : State) : Result :=
  setSlot s p fun x => { x with confChangeCount := s.a0.setWidth 16 }

/-- CFG.GET_CCC (R223). -/
def execCfgGetCcc (p : PmuIndex) (s : State) : Result := getSlot s p fun x => x.confChangeCount.setWidth 32

/-- CFG.INC_CCC (R224): the count wraps; `R0` is the new value. -/
def execCfgIncCcc (p : PmuIndex) (s : State) : Result :=
  onSlot s p fun x =>
    (s.withSlot p { x with confChangeCount := x.confChangeCount + 1 }).done ((x.confChangeCount + 1).setWidth 32) 0

/-- CFG.SET_FMT_COORD (R225). -/
def execCfgSetFmtCoord (p : PmuIndex) (s : State) : Result := setSlot s p fun x => { x with fmtCoord := flagOf s.a0 }

/-- CFG.GET_FMT_COORD (R226). -/
def execCfgGetFmtCoord (p : PmuIndex) (s : State) : Result := getSlot s p fun x => boolWord x.fmtCoord

/-- CFG.SET_FMT_PHW (R227). -/
def execCfgSetFmtPhw (p : PmuIndex) (s : State) : Result := setSlot s p fun x => { x with fmtPhw := flagOf s.a0 }

/-- CFG.GET_FMT_PHW (R228). -/
def execCfgGetFmtPhw (p : PmuIndex) (s : State) : Result := getSlot s p fun x => boolWord x.fmtPhw

/-- CFG.SET_FMT_ANW (R229). -/
def execCfgSetFmtAnw (p : PmuIndex) (s : State) : Result := setSlot s p fun x => { x with fmtAnw := flagOf s.a0 }

/-- CFG.GET_FMT_ANW (R230). -/
def execCfgGetFmtAnw (p : PmuIndex) (s : State) : Result := getSlot s p fun x => boolWord x.fmtAnw

/-- CFG.SET_FMT_FQW (R231). -/
def execCfgSetFmtFqw (p : PmuIndex) (s : State) : Result := setSlot s p fun x => { x with fmtFqw := flagOf s.a0 }

/-- CFG.GET_FMT_FQW (R232). -/
def execCfgGetFmtFqw (p : PmuIndex) (s : State) : Result := getSlot s p fun x => boolWord x.fmtFqw

end Sys2Proof.Machine
end

