-- ==== Sys2Proof/Machine/Command.lean ====
section
/-! DEFINITION. Machine/Command.lean: the Command Decoder family (45_command.md). -/

namespace Sys2Proof.Machine

/-- The classification of a word: its kind's code and the word (R290). INVALID is a result, not a failure. -/
def classified (s : State) (w : Half) : Result := s.done (commandKindCode (commandKindOf w)) (w.setWidth 32)

/-- CMD.CLASSIFY (R290): the word is `A0[15:0]`, or lies at `A2` in the presented bytes. -/
def execCmdClassify (frame : Bool) (src : Source) (s : State) : Result :=
  if frame = false then classified s (s.a0.setWidth 16)
  else if s.presentedFits = false then s.failed .overrun
  else if s.a2.toNat + 2 > s.a1.toNat then s.failed .malformedFrame
  else classified s (s.read16 (srcBuffer src) (s.a0.toNat + s.a2.toNat))

end Sys2Proof.Machine
end

