-- ==== Sys2Proof/Machine/Crc.lean ====
section
/-! DEFINITION. Machine/Crc.lean: the CRC generator and the CRC16 family (40_crc.md). -/

namespace Sys2Proof.Machine

/-- `crc_step` (R150), its third left shift the parameter `CRC_SHIFT3`. -/
def crcStep (shift3 : Nat) (crc : Half) (b : Byte) : Half :=
  let temp : Byte := crc.extractLsb' 8 8 ^^^ b
  let q : Half := (temp ^^^ (temp >>> 4)).setWidth 16
  let c2 : Half := (crc <<< 8) ^^^ q
  let c3 : Half := c2 ^^^ (q <<< 5)
  c3 ^^^ (q <<< shift3)

/-- `crc16` (R151): initial value 0xFFFF, no final XOR. -/
def crc16 (shift3 : Nat) (m : Bytes) : Half := m.foldl (crcStep shift3) 0xFFFF

/-- The bytes the `HDR` flag folds in first: `HB` or none (R151, R152). -/
def headerBytes (s : State) (hdr : Bool) : Bytes := if hdr then s.readBytes .hb 0 4 else []

/-- The CRC over the header block, if asked for, and `n` bytes of `SRC` from `A0` (R152, R154). -/
def presentedCrc (s : State) (hdr : Bool) (src : Source) (n : Nat) : Half :=
  crc16 s.params.crcShift3 (headerBytes s hdr ++ s.readBytes (srcBuffer src) s.a0.toNat n)

/-- CRC.COMPUTE (R152). -/
def execCrcCompute (hdr : Bool) (src : Source) (s : State) : Result :=
  if s.presentedFits = false then s.failed .overrun
  else s.done ((presentedCrc s hdr src s.a1.toNat).setWidth 32) 0

/-- CRC.GET (R153). -/
def execCrcGet (src : Source) (s : State) : Result :=
  if s.a0.toNat + 2 > s.params.bufBytes then s.failed .overrun
  else s.done ((s.read16 (srcBuffer src) s.a0.toNat).setWidth 32) 0

/-- CRC.CHECK (R154): the short-read test comes before the buffer test. -/
def execCrcCheck (hdr : Bool) (src : Source) (s : State) : Result :=
  if s.a1.toNat < 2 then s.failed .malformedFrame
  else if s.presentedFits = false then s.failed .overrun
  else
    let crc := presentedCrc s hdr src (s.a1.toNat - 2)
    let tx := s.read16 (srcBuffer src) (s.a0.toNat + s.a1.toNat - 2)
    if crc = tx then s.done 1 (crc.setWidth 32) else s.failed .crcMismatch

end Sys2Proof.Machine
end

