-- ==== Sys2Proof/Machine/Frames.lean ====
section
/-! DEFINITION. Machine/Frames.lean: what the three encoders emit in common, CFG.ENCODE (43_config_entries_encode.md, R260)
and HDRF.BUILD (44_header_frame.md). -/

namespace Sys2Proof.Machine

/-- The common header of R100: SYNC word, frame_size, and the id and time that `G` holds now. -/
def commonHeader (g : Global) (sync : Half) (size : Nat) : Bytes :=
  bytesBe16 sync ++ bytesBe16 (BitVec.ofNat 16 size) ++ bytesBe16 g.idCode ++ bytesBe32 g.epochSeconds ++
  bytesBe32 g.fracOfSecond

/-- A frame's body with its trailer: the CRC over every byte before it, most significant byte first (R104). -/
def withTrailer (shift3 : Nat) (body : Bytes) : Bytes := body ++ bytesBe16 (crc16 shift3 body)

/-! ### The channel-name store (R52) -/

/-- The list the store holds under a handle; a handle the host never defined has none (R383). -/
def State.namesAt (s : State) (h : Word) : List Name16 := ((s.names.find? (·.1 = h)).map (·.2)).getD []

/-- `NameCount(h)` (R52). -/
def State.nameCount (s : State) (h : Word) : Nat := (s.namesAt h).length

/-! ### CONFIG frames (R110 to R113) -/

/-- `C(p)`, the total channel count (R112). -/
def channelCount (c : Params) (x : PmuSlot) : Nat :=
  x.numPhasors.toNat + x.numAnalogs.toNat + c.namesPerStatusWord * x.numStatusWords.toNat

/-- `N(p)`, the length of the channel-name block, absent when not bound (R112). -/
def namesLength (c : Params) (x : PmuSlot) : Nat := if x.namesBound then 16 * channelCount c x else 0

/-- `B(p)`, the length of a PMU's block (R111). -/
def configBlockLength (c : Params) (x : PmuSlot) : Nat :=
  30 + namesLength c x + 4 * (x.numPhasors.toNat + x.numAnalogs.toNat + x.numStatusWords.toNat)

/-- `L`, the length of a CONFIG frame, an unbounded integer (R113, R115). -/
def configLength (s : State) : Nat := 24 + (s.pmus.map (configBlockLength s.params)).sum

/-- A bound name list is shorter than the PMU's channel count (R260). -/
def namesShort (s : State) (x : PmuSlot) : Bool :=
  x.namesBound && decide (s.nameCount x.namesHandle < channelCount s.params x)

/-- The channel-name block: the first `C(p)` names of the bound list, unchanged and in order (R112). -/
def namesBlock (s : State) (x : PmuSlot) : Bytes :=
  if x.namesBound then ((s.namesAt x.namesHandle).take (channelCount s.params x)).flatMap (·.toList) else []

/-- The block of one PMU in a CONFIG frame, in R111's order. -/
def configBlock (s : State) (x : PmuSlot) : Bytes :=
  x.stationName.toList ++ bytesBe16 x.idCode ++ bytesBe16 (dataFormat16 s.params x) ++ bytesBe16 x.numPhasors ++
  bytesBe16 x.numAnalogs ++ bytesBe16 x.numStatusWords ++ namesBlock s x ++ x.convFactorPhasor.flatMap bytesBe32 ++
  x.convFactorAnalog.flatMap bytesBe32 ++ x.statusWordMasks.flatMap bytesBe32 ++ bytesBe16 (nominalFreq16 x) ++
  bytesBe16 x.confChangeCount

/-- A CONFIG frame without its trailer (R110). -/
def configBody (s : State) (sync : Half) : Bytes :=
  commonHeader s.g sync (configLength s) ++ bytesBe32 s.g.timeBase ++ bytesBe16 s.g.numPmu ++
  s.pmus.flatMap (configBlock s) ++ bytesBe16 s.g.dataRate

/-- The SYNC word of the frame kind CFG.ENCODE is asked for (R110). -/
def configSync (kind : Word) : Half := if kind = 1 then 0xAA21 else 0xAA31

/-- CFG.ENCODE (R260): every check comes before the first write. -/
def execCfgEncode (s : State) : Result :=
  if s.a0 = 3 then s.failed .unsupported
  else if s.a0 ≠ 1 ∧ s.a0 ≠ 2 then s.failed .badParam
  else if configLength s > 65535 then s.failed .sizeOverflow
  else if s.pmus.any (namesShort s) then s.failed .namesShort
  else s.frameDone (withTrailer s.params.crcShift3 (configBody s (configSync s.a0)))

/-! ### HEADER frames (R116) -/

/-- A HEADER frame without its trailer: the common header and the text of `T` bytes (R116). -/
def headerBody (s : State) (t : Nat) : Bytes := commonHeader s.g 0xAA11 (16 + t) ++ s.readBytes .argb 0 t

/-- HDRF.BUILD (R280). -/
def execHdrfBuild (present : Bool) (s : State) : Result :=
  if present = false then s.failed .textAbsent
  else if s.a0.toNat > s.params.argBytes then s.failed .overrun
  else if 16 + s.a0.toNat > 65535 then s.failed .sizeOverflow
  else s.frameDone (withTrailer s.params.crcShift3 (headerBody s s.a0.toNat))

end Sys2Proof.Machine
end

