-- ==== Sys2Proof/Machine/DataCodec.lean ====
section
/-! DEFINITION. Machine/DataCodec.lean: the Data Frame Codec family (46_data_codec.md). -/

namespace Sys2Proof.Machine

/-! ### Values and sizes (R301, R302) -/

/-- The byte width a width flag selects: 4 for float32, 2 for int16 (R56). -/
def widthOf (wide : Bool) : Nat := if wide then 4 else 2

/-- A value in a 32-bit result register, zero-extended (R309). -/
def Value.word : Value → Word
  | .int16 v => v.setWidth 32
  | .float32 v => v

/-- The value of a class's width that a word's low bits hold. -/
def Value.ofWord (wide : Bool) (w : Word) : Value := if wide then .float32 w else .int16 (w.setWidth 16)

/-- `DB(p)`: the bytes of a PMU's block in a DATA frame, STAT included (R302). -/
def blockBytes (x : SampleSlot) : Nat :=
  2 + 2 * widthOf x.snapPhw * x.snapNph.toNat + widthOf x.snapAnw * x.snapNan.toNat + 2 * widthOf x.snapFqw +
  2 * x.snapNst.toNat

/-- `SB(p)`: the same block without STAT (R302). -/
def sampleBytes (x : SampleSlot) : Nat := blockBytes x - 2

/-- `FRAME`: the bytes of a DATA frame (R302). -/
def frameBytes (s : State) : Nat := 16 + (s.samples.map blockBytes).sum

/-- `RAW`: the bytes of a sample buffer (R302). -/
def rawBytes (s : State) : Nat := (s.samples.map sampleBytes).sum

/-! ### Binding (R300) -/

/-- The registers `1 .. n` of an array of a fresh sample, their values free (R300, assumption 4). -/
def unsetList {α : Type} (n : Half) (reg : Nat → α) : List α := (List.range n.toNat).map fun i => reg (i + 1)

/-- The snapshot of a slot, its sample registers without a value (R300). `bind` and `p` select the free values. -/
def bindSlot (bind p : Nat) (x : PmuSlot) : SampleSlot where
  snapCoord := x.fmtCoord
  snapPhw := x.fmtPhw
  snapAnw := x.fmtAnw
  snapFqw := x.fmtFqw
  snapNph := x.numPhasors
  snapNan := x.numAnalogs
  snapNst := x.numStatusWords
  stat := (Config.unsetSample bind p .stat).setWidth 16
  ph := unsetList x.numPhasors fun k =>
    (Value.ofWord x.fmtPhw (Config.unsetSample bind p (.phC0 k)), Value.ofWord x.fmtPhw (Config.unsetSample bind p (.phC1 k)))
  an := unsetList x.numAnalogs fun k => Value.ofWord x.fmtAnw (Config.unsetSample bind p (.an k))
  fdev := Value.ofWord x.fmtFqw (Config.unsetSample bind p .fdev)
  rocof := Value.ofWord x.fmtFqw (Config.unsetSample bind p .rocof)
  dig := unsetList x.numStatusWords fun k => (Config.unsetSample bind p (.dig k)).setWidth 16

/-- The snapshots of the slots from 1-based index `p` on. -/
def bindSlots (bind : Nat) : Nat → List PmuSlot → List SampleSlot
  | _, [] => []
  | p, x :: xs => bindSlot bind p x :: bindSlots bind (p + 1) xs

/-- The bind request of the configuration as it is now (R300). -/
def State.bindRequest (s : State) : BindRequest where
  numPmu := s.g.numPmu
  slots := s.pmus.map fun x =>
    { fmtCoord := x.fmtCoord, fmtPhw := x.fmtPhw, fmtAnw := x.fmtAnw, fmtFqw := x.fmtFqw, numPhasors := x.numPhasors
      numAnalogs := x.numAnalogs, numStatusWords := x.numStatusWords }

/-- DATA.BIND (R300). A failed bind leaves the codec unbound, the one failure that changes state (R341). -/
def execDataBind (s : State) : Result :=
  if s.params.bindAllocOk s.bindRequest = false then
    ((s.withCodec { bound := false, boundN := 0, sampleValid := false, statValid := false } []).failed .allocationFailure)
  else
    (({ s with binds := s.binds + 1 } : State).withCodec
      { bound := true, boundN := s.g.numPmu, sampleValid := false, statValid := false }
      (bindSlots s.binds 1 s.pmus)).done (s.g.numPmu.setWidth 32) 0

/-! ### Decode (R305)

`CUR` is the `Nat` these functions take and hand on: it exists only inside the operation (R24). -/

/-- `take(2)` or `take(4)` of a value: read big-endian at `CUR`, advance it (R305). -/
def takeValue (s : State) (b : Buffer) (wide : Bool) (cur : Nat) : Value × Nat :=
  if wide then (.float32 (s.read32 b cur), cur + 4) else (.int16 (s.read16 b cur), cur + 2)

/-- `take(2)` of a 16-bit word (R305). -/
def takeHalf (s : State) (b : Buffer) (cur : Nat) : Half × Nat := (s.read16 b cur, cur + 2)

/-- A phasor pair: `c0`, then `c1` (R305). -/
def takePair (s : State) (b : Buffer) (wide : Bool) (cur : Nat) : (Value × Value) × Nat :=
  let c0 := takeValue s b wide cur
  let c1 := takeValue s b wide c0.2
  ((c0.1, c1.1), c1.2)

/-- `n` items taken one after another. -/
def takeMany {α : Type} (one : Nat → α × Nat) : Nat → Nat → List α × Nat
  | 0, cur => ([], cur)
  | n + 1, cur =>
    let x := one cur
    let rest := takeMany one n x.2
    (x.1 :: rest.1, rest.2)

/-- One PMU's block, in R306's order; STAT only with the common header, else it keeps what it had (R305). -/
def takeBlock (s : State) (b : Buffer) (ich : Bool) (x : SampleSlot) (cur : Nat) : SampleSlot × Nat :=
  let stat := if ich then takeHalf s b cur else (x.stat, cur)
  let ph := takeMany (takePair s b x.snapPhw) x.snapNph.toNat stat.2
  let an := takeMany (takeValue s b x.snapAnw) x.snapNan.toNat ph.2
  let fdev := takeValue s b x.snapFqw an.2
  let rocof := takeValue s b x.snapFqw fdev.2
  let dig := takeMany (takeHalf s b) x.snapNst.toNat rocof.2
  ({ x with stat := stat.1, ph := ph.1, an := an.1, fdev := fdev.1, rocof := rocof.1, dig := dig.1 }, dig.2)

/-- The blocks of every bound PMU (R305). -/
def takeBlocks (s : State) (b : Buffer) (ich : Bool) : List SampleSlot → Nat → List SampleSlot × Nat
  | [], cur => ([], cur)
  | x :: xs, cur =>
    let y := takeBlock s b ich x cur
    let rest := takeBlocks s b ich xs y.2
    (y.1 :: rest.1, rest.2)

/-- The bytes a decode needs (R305). -/
def neededBytes (s : State) (ich : Bool) : Nat := if ich then frameBytes s - 2 else rawBytes s

/-- The state after the registers of a decode are written; `CUR` has no value again (R24, R58). -/
def State.decoded (s : State) (ich : Bool) (ss : List SampleSlot) : State :=
  { s with
    samples := ss
    d := { s.d with sampleValid := true, statValid := if ich then true else s.d.statValid }
    cur := none }

/-- DATA.DECODE (R305): the whole extent is checked first; the four header fields and the CRC are stepped over. -/
def execDataDecode (ich : Bool) (src : Source) (s : State) : Result :=
  if s.d.bound = false then s.failed .notBound
  else if s.presentedFits = false then s.failed .overrun
  else if neededBytes s ich > s.a1.toNat then s.failed .overrun
  else
    let start := s.a0.toNat
    let blocks := takeBlocks s (srcBuffer src) ich s.samples (if ich then start + 12 else start)
    let last := if ich then blocks.2 + 2 else blocks.2
    (s.decoded ich blocks.1).done (BitVec.ofNat 32 (last - start)) 0

/-! ### Encode (R307) -/

/-- `emit(w, v)`: the value's low bytes, the most significant first (R307). -/
def emitValue (wide : Bool) (v : Value) : Bytes :=
  if wide then bytesBe32 (Value.word v) else bytesBe16 ((Value.word v).setWidth 16)

/-- One PMU's block of a DATA frame, in R306's order. -/
def dataBlock (x : SampleSlot) : Bytes :=
  bytesBe16 x.stat ++ x.ph.flatMap (fun c => emitValue x.snapPhw c.1 ++ emitValue x.snapPhw c.2) ++
  x.an.flatMap (emitValue x.snapAnw) ++ emitValue x.snapFqw x.fdev ++ emitValue x.snapFqw x.rocof ++
  x.dig.flatMap bytesBe16

/-- A DATA frame without its trailer (R117, R307). -/
def dataBody (s : State) : Bytes := commonHeader s.g 0xAA01 (frameBytes s) ++ s.samples.flatMap dataBlock

/-- DATA.ENCODE (R307): the header fields come from `G` as it is now, the layout from the snapshot. -/
def execDataEncode (s : State) : Result :=
  if s.d.bound = false then s.failed .notBound
  else if s.d.sampleValid = false ∨ s.d.statValid = false then s.failed .noSample
  else if frameBytes s > 65535 then s.failed .sizeOverflow
  else s.frameDone (withTrailer s.params.crcShift3 (dataBody s))

/-! ### Size and accessors (R308 to R315) -/

/-- The snapshot entry a 1-based index names, if it exists (R11, R309). -/
def State.sampleSlot (s : State) (p : PmuIndex) : Option SampleSlot :=
  if 1 ≤ p.toNat ∧ p.toNat ≤ s.d.boundN.toNat then s.samples[p.toNat - 1]? else none

/-- A 64-bit result in `R1:R0` (R308). -/
def done64 (s : State) (v : Nat) : Result := s.done (BitVec.ofNat 32 v) (BitVec.ofNat 32 (v / 2 ^ 32))

/-- DATA.SIZE (R308): `PMUX` = 0 asks for the frame. -/
def execDataSize (p : PmuIndex) (s : State) : Result :=
  if s.d.bound = false then s.failed .notBound
  else if p = 0 then done64 s (frameBytes s)
  else match s.sampleSlot p with
    | none => s.failed .indexOutOfRange
    | some x => done64 s (blockBytes x)

/-- The accessor law (R309) without an entry index: bound, PMU index, valid flag. -/
def accessSample (s : State) (p : PmuIndex) (valid : Bool) (result : SampleSlot → Result) : Result :=
  if s.d.bound = false then s.failed .notBound
  else match s.sampleSlot p with
    | none => s.failed .indexOutOfRange
    | some x => if valid = false then s.failed .noSample else result x

/-- The accessor law (R309) with the entry index `A0`: bound, PMU index, entry index, valid flag. -/
def accessEntry {α : Type} (s : State) (p : PmuIndex) (count : SampleSlot → Half) (entries : SampleSlot → List α)
    (result : α → Result) : Result :=
  if s.d.bound = false then s.failed .notBound
  else match s.sampleSlot p with
    | none => s.failed .indexOutOfRange
    | some x =>
      if entryIndexOk s.a0 (count x) = false then s.failed .indexOutOfRange
      else if s.d.sampleValid = false then s.failed .noSample
      else match (entries x)[s.a0.toNat - 1]? with
        | none => s.failed .indexOutOfRange
        | some v => result v

/-- DATA.GET_PHASOR (R310). -/
def execDataGetPhasor (p : PmuIndex) (s : State) : Result :=
  accessEntry s p (·.snapNph) (·.ph) fun v => s.done (Value.word v.1) (Value.word v.2)

/-- DATA.GET_ANALOG (R311). -/
def execDataGetAnalog (p : PmuIndex) (s : State) : Result :=
  accessEntry s p (·.snapNan) (·.an) fun v => s.done (Value.word v) 0

/-- DATA.GET_FREQ (R312). -/
def execDataGetFreq (p : PmuIndex) (s : State) : Result :=
  accessSample s p s.d.sampleValid fun x => s.done (Value.word x.fdev) 0

/-- DATA.GET_ROCOF (R313). -/
def execDataGetRocof (p : PmuIndex) (s : State) : Result :=
  accessSample s p s.d.sampleValid fun x => s.done (Value.word x.rocof) 0

/-- DATA.GET_STAT (R314). -/
def execDataGetStat (p : PmuIndex) (s : State) : Result :=
  accessSample s p s.d.statValid fun x => s.done (x.stat.setWidth 32) 0

/-- DATA.GET_DIG (R315). -/
def execDataGetDig (p : PmuIndex) (s : State) : Result :=
  accessEntry s p (·.snapNst) (·.dig) fun v => s.done (v.setWidth 32) 0

end Sys2Proof.Machine
end

