-- ==== Sys2Proof/Machine/HdrFields.lean ====
section
/-! DEFINITION. Machine/HdrFields.lean: the Frame Header Utilities family (41_frame_header.md). -/

namespace Sys2Proof.Machine

/-- HDR.TYPE (R170): INVALID is a `MALFORMED_FRAME`. -/
def execHdrType (src : Source) (s : State) : Result :=
  extraction s 2 <|
    let b0 := s.readByte (srcBuffer src) s.a0.toNat
    let b1 := s.readByte (srcBuffer src) (s.a0.toNat + 1)
    if frameKindOf b0 b1 = .invalid then s.failed .malformedFrame
    else s.done (frameKindCode (frameKindOf b0 b1)) (b1.setWidth 32)

/-- HDR.SIZE (R171). -/
def execHdrSize (src : Source) (s : State) : Result :=
  extraction s 4 <| s.done ((s.read16 (srcBuffer src) (s.a0.toNat + 2)).setWidth 32) 0

/-- HDR.IDCODE (R172). -/
def execHdrIdcode (strip : Bool) (src : Source) (s : State) : Result :=
  extraction s (fieldOffset strip 4 + 2) <|
    s.done ((s.read16 (srcBuffer src) (s.a0.toNat + fieldOffset strip 4)).setWidth 32) 0

/-- HDR.SOC (R173). -/
def execHdrSoc (strip : Bool) (src : Source) (s : State) : Result :=
  extraction s (fieldOffset strip 6 + 4) <|
    s.done (s.read32 (srcBuffer src) (s.a0.toNat + fieldOffset strip 6)) 0

/-- The rescaled fraction (R175): an exact product of the raw word and the floor of the quotient, below 2^62. -/
def rescaledFraction (rescale : Bool) (raw timeBase : Word) : BitVec 64 :=
  if rescale = true ∧ timeBase ≠ 0 then BitVec.ofNat 64 (raw.toNat * (1000000000 / timeBase.toNat))
  else raw.setWidth 64

/-- HDR.FRAC (R175): the 64-bit value in `R1:R0`. -/
def execHdrFrac (strip rescale : Bool) (src : Source) (s : State) : Result :=
  extraction s (fieldOffset strip 10 + 4) <|
    let v := rescaledFraction rescale (s.read32 (srcBuffer src) (s.a0.toNat + fieldOffset strip 10)) s.a2
    s.done (v.extractLsb' 0 32) (v.extractLsb' 32 32)

/-- The fraction count of R176: `floor(ns * time_base / 10^9)`. -/
def stampCount (ns timeBase : Word) : Word := BitVec.ofNat 32 (ns.toNat * timeBase.toNat / 1000000000)

/-- HDR.STAMP (R176): the top byte of the fraction word is kept. -/
def execHdrStamp (s : State) : Result :=
  if s.a1.toNat ≥ 1000000000 then s.failed .badParam
  else if s.g.timeBase = 0 then s.failed .badParam
  else (s.withG { s.g with
      epochSeconds := s.a0
      fracOfSecond := (s.g.fracOfSecond &&& 0xFF000000) ||| (stampCount s.a1 s.g.timeBase &&& 0x00FFFFFF) }).done 0 0

end Sys2Proof.Machine
end

