-- ==== Sys2Proof/Machine/WireWords.lean ====
section
/-! DEFINITION. Machine/WireWords.lean: the 14 rows of the opcode table that are words of frames (R103, R120). Such a word is
run by the operation that reads it: a SYNC word by HDR.TYPE (R170), a command word by CMD.CLASSIFY (R290). Its meaning is
the result that operation gives on it (assumption 6). -/

namespace Sys2Proof.Machine

/-- HDR.TYPE's result on a SYNC word of the table: the kind's code and the type byte (R170). -/
def syncRecognised (s : State) (kind : FrameKind) (typeByte : Byte) : Result :=
  s.done (frameKindCode kind) (typeByte.setWidth 32)

/-- CMD.CLASSIFY's result on a command word of the table: the kind's code and the word (R290). -/
def commandRecognised (s : State) (kind : CommandKind) (w : Half) : Result :=
  s.done (commandKindCode kind) (w.setWidth 32)

/-- SYNC word 0xAA01 (R103). -/
def execSyncData (s : State) : Result := syncRecognised s .data 0x01

/-- SYNC word 0xAA11 (R103). -/
def execSyncHeader (s : State) : Result := syncRecognised s .header 0x11

/-- SYNC word 0xAA21 (R103). -/
def execSyncConfig1 (s : State) : Result := syncRecognised s .config1 0x21

/-- SYNC word 0xAA31 (R103). -/
def execSyncConfig2 (s : State) : Result := syncRecognised s .config2 0x31

/-- SYNC word 0xAA41 (R103). -/
def execSyncCommand (s : State) : Result := syncRecognised s .command 0x41

/-- SYNC word 0xAA52 (R103): recognised and nothing more (R125b). -/
def execSyncConfig3 (s : State) : Result := syncRecognised s .config3 0x52

/-- Command word 0x0001 (R120). -/
def execCmdwDataOff (s : State) : Result := commandRecognised s .dataOff 0x0001

/-- Command word 0x0002 (R120). -/
def execCmdwDataOn (s : State) : Result := commandRecognised s .dataOn 0x0002

/-- Command word 0x0003 (R120); it starts no HEADER frame (R281). -/
def execCmdwSendHdr (s : State) : Result := commandRecognised s .sendHdr 0x0003

/-- Command word 0x0004 (R120). -/
def execCmdwSendConfig1 (s : State) : Result := commandRecognised s .sendConfig1 0x0004

/-- Command word 0x0005 (R120). -/
def execCmdwSendConfig2 (s : State) : Result := commandRecognised s .sendConfig2 0x0005

/-- Command word 0x0006 (R120): classified, no further effect (R125d). -/
def execCmdwSendConfig3 (s : State) : Result := commandRecognised s .sendConfig3 0x0006

/-- Command word 0x0008 (R120): classified, no further effect (R125d). -/
def execCmdwExtendedFrame (s : State) : Result := commandRecognised s .extendedFrame 0x0008

/-- A command word of the USER class (R120): classified, no further effect (R125d). -/
def execCmdwUser (w : Half) (s : State) : Result := commandRecognised s .user w

end Sys2Proof.Machine
end

