-- ==== Sys2Proof/Machine/Dispatch.lean ====
section
/-! DEFINITION. Machine/Dispatch.lean: one arm per row of the opcode table. -/

namespace Sys2Proof.Machine

def exec (i : Instr) (s : State) : Host.Outcome State Fault Refusal :=
  match i with
  | .crcCompute hdr src => Sys2Proof.Machine.execCrcCompute hdr src s
  | .crcGet src => Sys2Proof.Machine.execCrcGet src s
  | .crcCheck hdr src => Sys2Proof.Machine.execCrcCheck hdr src s
  | .hdrType src => Sys2Proof.Machine.execHdrType src s
  | .hdrSize src => Sys2Proof.Machine.execHdrSize src s
  | .hdrIdcode strip src => Sys2Proof.Machine.execHdrIdcode strip src s
  | .hdrSoc strip src => Sys2Proof.Machine.execHdrSoc strip src s
  | .hdrFrac strip rescale src => Sys2Proof.Machine.execHdrFrac strip rescale src s
  | .hdrStamp => Sys2Proof.Machine.execHdrStamp s
  | .cfgSetPmuCount => Sys2Proof.Machine.execCfgSetPmuCount s
  | .cfgGetPmuCount => Sys2Proof.Machine.execCfgGetPmuCount s
  | .cfgSetGid => Sys2Proof.Machine.execCfgSetGid s
  | .cfgGetGid => Sys2Proof.Machine.execCfgGetGid s
  | .cfgSetTimeBase => Sys2Proof.Machine.execCfgSetTimeBase s
  | .cfgGetTimeBase => Sys2Proof.Machine.execCfgGetTimeBase s
  | .cfgSetDataRate => Sys2Proof.Machine.execCfgSetDataRate s
  | .cfgGetDataRate => Sys2Proof.Machine.execCfgGetDataRate s
  | .cfgSetSoc => Sys2Proof.Machine.execCfgSetSoc s
  | .cfgGetSoc => Sys2Proof.Machine.execCfgGetSoc s
  | .cfgSetFrac => Sys2Proof.Machine.execCfgSetFrac s
  | .cfgGetFrac => Sys2Proof.Machine.execCfgGetFrac s
  | .cfgSetPid p => Sys2Proof.Machine.execCfgSetPid p s
  | .cfgGetPid p => Sys2Proof.Machine.execCfgGetPid p s
  | .cfgSetStn p => Sys2Proof.Machine.execCfgSetStn p s
  | .cfgGetStn p => Sys2Proof.Machine.execCfgGetStn p s
  | .cfgSetFnom p => Sys2Proof.Machine.execCfgSetFnom p s
  | .cfgGetFnom p => Sys2Proof.Machine.execCfgGetFnom p s
  | .cfgSetCcc p => Sys2Proof.Machine.execCfgSetCcc p s
  | .cfgGetCcc p => Sys2Proof.Machine.execCfgGetCcc p s
  | .cfgIncCcc p => Sys2Proof.Machine.execCfgIncCcc p s
  | .cfgSetNph p => Sys2Proof.Machine.execCfgSetNph p s
  | .cfgGetNph p => Sys2Proof.Machine.execCfgGetNph p s
  | .cfgSetNan p => Sys2Proof.Machine.execCfgSetNan p s
  | .cfgGetNan p => Sys2Proof.Machine.execCfgGetNan p s
  | .cfgSetNst p => Sys2Proof.Machine.execCfgSetNst p s
  | .cfgGetNst p => Sys2Proof.Machine.execCfgGetNst p s
  | .cfgSetNames p => Sys2Proof.Machine.execCfgSetNames p s
  | .cfgSetFmtCoord p => Sys2Proof.Machine.execCfgSetFmtCoord p s
  | .cfgGetFmtCoord p => Sys2Proof.Machine.execCfgGetFmtCoord p s
  | .cfgSetFmtPhw p => Sys2Proof.Machine.execCfgSetFmtPhw p s
  | .cfgGetFmtPhw p => Sys2Proof.Machine.execCfgGetFmtPhw p s
  | .cfgSetFmtAnw p => Sys2Proof.Machine.execCfgSetFmtAnw p s
  | .cfgGetFmtAnw p => Sys2Proof.Machine.execCfgGetFmtAnw p s
  | .cfgSetFmtFqw p => Sys2Proof.Machine.execCfgSetFmtFqw p s
  | .cfgGetFmtFqw p => Sys2Proof.Machine.execCfgGetFmtFqw p s
  | .cfgSetPhf p scope => Sys2Proof.Machine.execCfgSetPhf p scope s
  | .cfgSetPht p scope => Sys2Proof.Machine.execCfgSetPht p scope s
  | .cfgGetPhf p => Sys2Proof.Machine.execCfgGetPhf p s
  | .cfgGetPht p => Sys2Proof.Machine.execCfgGetPht p s
  | .cfgSetAnf p scope => Sys2Proof.Machine.execCfgSetAnf p scope s
  | .cfgSetAnt p scope => Sys2Proof.Machine.execCfgSetAnt p scope s
  | .cfgGetAnf p => Sys2Proof.Machine.execCfgGetAnf p s
  | .cfgGetAnt p => Sys2Proof.Machine.execCfgGetAnt p s
  | .cfgSetMskn p scope => Sys2Proof.Machine.execCfgSetMskn p scope s
  | .cfgSetMskv p scope => Sys2Proof.Machine.execCfgSetMskv p scope s
  | .cfgGetMskn p => Sys2Proof.Machine.execCfgGetMskn p s
  | .cfgGetMskv p => Sys2Proof.Machine.execCfgGetMskv p s
  | .cfgEncode => Sys2Proof.Machine.execCfgEncode s
  | .hdrfBuild present => Sys2Proof.Machine.execHdrfBuild present s
  | .cmdClassify frame src => Sys2Proof.Machine.execCmdClassify frame src s
  | .dataBind => Sys2Proof.Machine.execDataBind s
  | .dataDecode ich src => Sys2Proof.Machine.execDataDecode ich src s
  | .dataEncode => Sys2Proof.Machine.execDataEncode s
  | .dataSize p => Sys2Proof.Machine.execDataSize p s
  | .dataGetPhasor p => Sys2Proof.Machine.execDataGetPhasor p s
  | .dataGetAnalog p => Sys2Proof.Machine.execDataGetAnalog p s
  | .dataGetFreq p => Sys2Proof.Machine.execDataGetFreq p s
  | .dataGetRocof p => Sys2Proof.Machine.execDataGetRocof p s
  | .dataGetStat p => Sys2Proof.Machine.execDataGetStat p s
  | .dataGetDig p => Sys2Proof.Machine.execDataGetDig p s
  | .syncData => Sys2Proof.Machine.execSyncData s
  | .syncHeader => Sys2Proof.Machine.execSyncHeader s
  | .syncConfig1 => Sys2Proof.Machine.execSyncConfig1 s
  | .syncConfig2 => Sys2Proof.Machine.execSyncConfig2 s
  | .syncCommand => Sys2Proof.Machine.execSyncCommand s
  | .syncConfig3 => Sys2Proof.Machine.execSyncConfig3 s
  | .cmdwDataOff => Sys2Proof.Machine.execCmdwDataOff s
  | .cmdwDataOn => Sys2Proof.Machine.execCmdwDataOn s
  | .cmdwSendHdr => Sys2Proof.Machine.execCmdwSendHdr s
  | .cmdwSendConfig1 => Sys2Proof.Machine.execCmdwSendConfig1 s
  | .cmdwSendConfig2 => Sys2Proof.Machine.execCmdwSendConfig2 s
  | .cmdwSendConfig3 => Sys2Proof.Machine.execCmdwSendConfig3 s
  | .cmdwExtendedFrame => Sys2Proof.Machine.execCmdwExtendedFrame s
  | .cmdwUser w => Sys2Proof.Machine.execCmdwUser w s

end Sys2Proof.Machine
end

