-- ==== Sys2Proof/WellFormed.lean ====
section
/-! DEFINITION. WellFormed.lean: which terms are instructions of the opcode table. -/

namespace Sys2Proof

/-- The USER class of R120: `(word & 0x0F00) == 0x0F00`. -/
def isUserWord (w : Half) : Bool := w &&& 0x0F00 == 0x0F00

/-- Every operation's operands are admitted at every value their fields hold (R131); a command word of the USER row must lie
in the USER class (R120). -/
def Instr.wf : Instr → Bool
  | .cmdwUser w => isUserWord w
  | _ => true

end Sys2Proof
end

