-- ==== Sys2Proof/Decode.lean ====
section
/-! DEFINITION. Decode.lean: the operation word of R130 and R131, the SYNC words of R103 and the command words of R120, read
and written. -/

namespace Sys2Proof

/-- `FLG[2]` (R131). -/
def Source.ofBit (b : Bool) : Source := if b then .txb else .rxb

/-- `FLG[2]` (R131). -/
def Source.bit : Source → Bool
  | .rxb => false
  | .txb => true

/-- `FLG[5:4]` (R131). -/
def Scope.ofBits (b : BitVec 2) : Scope :=
  if b = 0 then .one else if b = 1 then .all else if b = 2 then .allPmu else .reserved

/-- `FLG[5:4]` (R131). -/
def Scope.bits : Scope → BitVec 2
  | .one => 0
  | .all => 1
  | .allPmu => 2
  | .reserved => 3

/-- The operation that `OP`, `FLG` and `PMUX` select (R130); an operation reads only the flag bits R131 lists for it. -/
def decodeFields (op flg : Byte) (p : PmuIndex) : Except DecodeError Instr :=
  match op.toNat with
  | 0x10 => .ok (.crcCompute (flg.getLsbD 0) (Source.ofBit (flg.getLsbD 2)))
  | 0x11 => .ok (.crcGet (Source.ofBit (flg.getLsbD 2)))
  | 0x12 => .ok (.crcCheck (flg.getLsbD 0) (Source.ofBit (flg.getLsbD 2)))
  | 0x20 => .ok (.hdrType (Source.ofBit (flg.getLsbD 2)))
  | 0x21 => .ok (.hdrSize (Source.ofBit (flg.getLsbD 2)))
  | 0x22 => .ok (.hdrIdcode (flg.getLsbD 0) (Source.ofBit (flg.getLsbD 2)))
  | 0x23 => .ok (.hdrSoc (flg.getLsbD 0) (Source.ofBit (flg.getLsbD 2)))
  | 0x24 => .ok (.hdrFrac (flg.getLsbD 0) (flg.getLsbD 1) (Source.ofBit (flg.getLsbD 2)))
  | 0x25 => .ok .hdrStamp
  | 0x30 => .ok .cfgSetPmuCount
  | 0x31 => .ok .cfgGetPmuCount
  | 0x32 => .ok .cfgSetGid
  | 0x33 => .ok .cfgGetGid
  | 0x34 => .ok .cfgSetTimeBase
  | 0x35 => .ok .cfgGetTimeBase
  | 0x36 => .ok .cfgSetDataRate
  | 0x37 => .ok .cfgGetDataRate
  | 0x38 => .ok .cfgSetSoc
  | 0x39 => .ok .cfgGetSoc
  | 0x3A => .ok .cfgSetFrac
  | 0x3B => .ok .cfgGetFrac
  | 0x40 => .ok (.cfgSetPid p)
  | 0x41 => .ok (.cfgGetPid p)
  | 0x42 => .ok (.cfgSetStn p)
  | 0x43 => .ok (.cfgGetStn p)
  | 0x44 => .ok (.cfgSetFnom p)
  | 0x45 => .ok (.cfgGetFnom p)
  | 0x46 => .ok (.cfgSetCcc p)
  | 0x47 => .ok (.cfgGetCcc p)
  | 0x48 => .ok (.cfgIncCcc p)
  | 0x50 => .ok (.cfgSetNph p)
  | 0x51 => .ok (.cfgGetNph p)
  | 0x52 => .ok (.cfgSetNan p)
  | 0x53 => .ok (.cfgGetNan p)
  | 0x54 => .ok (.cfgSetNst p)
  | 0x55 => .ok (.cfgGetNst p)
  | 0x56 => .ok (.cfgSetNames p)
  | 0x58 => .ok (.cfgSetFmtCoord p)
  | 0x59 => .ok (.cfgGetFmtCoord p)
  | 0x5A => .ok (.cfgSetFmtPhw p)
  | 0x5B => .ok (.cfgGetFmtPhw p)
  | 0x5C => .ok (.cfgSetFmtAnw p)
  | 0x5D => .ok (.cfgGetFmtAnw p)
  | 0x5E => .ok (.cfgSetFmtFqw p)
  | 0x5F => .ok (.cfgGetFmtFqw p)
  | 0x60 => .ok (.cfgSetPhf p (Scope.ofBits (flg.extractLsb' 4 2)))
  | 0x61 => .ok (.cfgSetPht p (Scope.ofBits (flg.extractLsb' 4 2)))
  | 0x62 => .ok (.cfgGetPhf p)
  | 0x63 => .ok (.cfgGetPht p)
  | 0x64 => .ok (.cfgSetAnf p (Scope.ofBits (flg.extractLsb' 4 2)))
  | 0x65 => .ok (.cfgSetAnt p (Scope.ofBits (flg.extractLsb' 4 2)))
  | 0x66 => .ok (.cfgGetAnf p)
  | 0x67 => .ok (.cfgGetAnt p)
  | 0x68 => .ok (.cfgSetMskn p (Scope.ofBits (flg.extractLsb' 4 2)))
  | 0x69 => .ok (.cfgSetMskv p (Scope.ofBits (flg.extractLsb' 4 2)))
  | 0x6A => .ok (.cfgGetMskn p)
  | 0x6B => .ok (.cfgGetMskv p)
  | 0x70 => .ok .cfgEncode
  | 0x71 => .ok (.hdrfBuild (flg.getLsbD 0))
  | 0x80 => .ok (.cmdClassify (flg.getLsbD 0) (Source.ofBit (flg.getLsbD 2)))
  | 0x90 => .ok .dataBind
  | 0x91 => .ok (.dataDecode (flg.getLsbD 0) (Source.ofBit (flg.getLsbD 2)))
  | 0x92 => .ok .dataEncode
  | 0x93 => .ok (.dataSize p)
  | 0x94 => .ok (.dataGetPhasor p)
  | 0x95 => .ok (.dataGetAnalog p)
  | 0x96 => .ok (.dataGetFreq p)
  | 0x97 => .ok (.dataGetRocof p)
  | 0x98 => .ok (.dataGetStat p)
  | 0x99 => .ok (.dataGetDig p)
  | _ => .error (.illegalOp op)

/-- The operation a `CMD` word selects: `OP` = bits 31:24, `FLG` = bits 23:16, `PMUX` = bits 15:0 (R20, R130). -/
def decodeCmd (w : Word) : Except DecodeError Instr :=
  decodeFields (w.extractLsb' 24 8) (w.extractLsb' 16 8) (w.extractLsb' 0 16)

/-- The SYNC word whose two bytes are `b0`, `b1`: all sixteen bits are compared (R103). -/
def decodeSync (b0 b1 : Byte) : Except DecodeError Instr :=
  if b0 = 0xAA then
    if b1 = 0x01 then .ok .syncData
    else if b1 = 0x11 then .ok .syncHeader
    else if b1 = 0x21 then .ok .syncConfig1
    else if b1 = 0x31 then .ok .syncConfig2
    else if b1 = 0x41 then .ok .syncCommand
    else if b1 = 0x52 then .ok .syncConfig3
    else .error (.invalidSync (b0 ++ b1))
  else .error (.invalidSync (b0 ++ b1))

/-- The row of R120 that a command word belongs to: seven exact words, then the USER class. -/
def decodeCommandWord (w : Half) : Except DecodeError Instr :=
  if w = 0x0001 then .ok .cmdwDataOff
  else if w = 0x0002 then .ok .cmdwDataOn
  else if w = 0x0003 then .ok .cmdwSendHdr
  else if w = 0x0004 then .ok .cmdwSendConfig1
  else if w = 0x0005 then .ok .cmdwSendConfig2
  else if w = 0x0006 then .ok .cmdwSendConfig3
  else if w = 0x0008 then .ok .cmdwExtendedFrame
  else if w &&& 0x0F00 = 0x0F00 then .ok (.cmdwUser w)
  else .error (.invalidCommand w)

/-- A 16-bit word of a frame, given by its two bytes, the most significant first (R73): a SYNC word if its first byte is the
SYNC byte, else a command word. No SYNC word of R103 is a command word of R120. -/
def decodeWire (b0 b1 : Byte) : Except DecodeError Instr :=
  if b0 = 0xAA then decodeSync b0 b1 else decodeCommandWord (b0 ++ b1)

/-- The decoder: total on operation words and on words of frames. -/
def decode : Code → Except DecodeError Instr
  | .cmd w => decodeCmd w
  | .wire w => decodeWire (w.extractLsb' 8 8) (w.extractLsb' 0 8)

/-- The `FLG` byte of R131: bit 0, bit 1 (`RESCALE`), bit 2 (`BUFSEL`), bits 5:4 (`SCOPE`); the others 0, as software should
write them. -/
def flags (bit0 bit1 bit2 : Bool) (scope : BitVec 2) : Byte :=
  (0 : BitVec 2) ++ scope ++ (0 : BitVec 1) ++ BitVec.ofBool bit2 ++ BitVec.ofBool bit1 ++ BitVec.ofBool bit0

/-- The operation word `OP ++ FLG ++ PMUX` (R130). -/
def opw (op flg : Byte) (p : PmuIndex) : Code := .cmd (op ++ flg ++ p)

/-- The words of R130, R103 and R120; a `PMUX` or flag bit that the operation ignores is written 0. -/
def encode : Instr → Code
  | .crcCompute hdr src => opw 0x10 (flags hdr false src.bit 0) 0
  | .crcGet src => opw 0x11 (flags false false src.bit 0) 0
  | .crcCheck hdr src => opw 0x12 (flags hdr false src.bit 0) 0
  | .hdrType src => opw 0x20 (flags false false src.bit 0) 0
  | .hdrSize src => opw 0x21 (flags false false src.bit 0) 0
  | .hdrIdcode strip src => opw 0x22 (flags strip false src.bit 0) 0
  | .hdrSoc strip src => opw 0x23 (flags strip false src.bit 0) 0
  | .hdrFrac strip rescale src => opw 0x24 (flags strip rescale src.bit 0) 0
  | .hdrStamp => opw 0x25 0 0
  | .cfgSetPmuCount => opw 0x30 0 0
  | .cfgGetPmuCount => opw 0x31 0 0
  | .cfgSetGid => opw 0x32 0 0
  | .cfgGetGid => opw 0x33 0 0
  | .cfgSetTimeBase => opw 0x34 0 0
  | .cfgGetTimeBase => opw 0x35 0 0
  | .cfgSetDataRate => opw 0x36 0 0
  | .cfgGetDataRate => opw 0x37 0 0
  | .cfgSetSoc => opw 0x38 0 0
  | .cfgGetSoc => opw 0x39 0 0
  | .cfgSetFrac => opw 0x3A 0 0
  | .cfgGetFrac => opw 0x3B 0 0
  | .cfgSetPid p => opw 0x40 0 p
  | .cfgGetPid p => opw 0x41 0 p
  | .cfgSetStn p => opw 0x42 0 p
  | .cfgGetStn p => opw 0x43 0 p
  | .cfgSetFnom p => opw 0x44 0 p
  | .cfgGetFnom p => opw 0x45 0 p
  | .cfgSetCcc p => opw 0x46 0 p
  | .cfgGetCcc p => opw 0x47 0 p
  | .cfgIncCcc p => opw 0x48 0 p
  | .cfgSetNph p => opw 0x50 0 p
  | .cfgGetNph p => opw 0x51 0 p
  | .cfgSetNan p => opw 0x52 0 p
  | .cfgGetNan p => opw 0x53 0 p
  | .cfgSetNst p => opw 0x54 0 p
  | .cfgGetNst p => opw 0x55 0 p
  | .cfgSetNames p => opw 0x56 0 p
  | .cfgSetFmtCoord p => opw 0x58 0 p
  | .cfgGetFmtCoord p => opw 0x59 0 p
  | .cfgSetFmtPhw p => opw 0x5A 0 p
  | .cfgGetFmtPhw p => opw 0x5B 0 p
  | .cfgSetFmtAnw p => opw 0x5C 0 p
  | .cfgGetFmtAnw p => opw 0x5D 0 p
  | .cfgSetFmtFqw p => opw 0x5E 0 p
  | .cfgGetFmtFqw p => opw 0x5F 0 p
  | .cfgSetPhf p scope => opw 0x60 (flags false false false scope.bits) p
  | .cfgSetPht p scope => opw 0x61 (flags false false false scope.bits) p
  | .cfgGetPhf p => opw 0x62 0 p
  | .cfgGetPht p => opw 0x63 0 p
  | .cfgSetAnf p scope => opw 0x64 (flags false false false scope.bits) p
  | .cfgSetAnt p scope => opw 0x65 (flags false false false scope.bits) p
  | .cfgGetAnf p => opw 0x66 0 p
  | .cfgGetAnt p => opw 0x67 0 p
  | .cfgSetMskn p scope => opw 0x68 (flags false false false scope.bits) p
  | .cfgSetMskv p scope => opw 0x69 (flags false false false scope.bits) p
  | .cfgGetMskn p => opw 0x6A 0 p
  | .cfgGetMskv p => opw 0x6B 0 p
  | .cfgEncode => opw 0x70 0 0
  | .hdrfBuild present => opw 0x71 (flags present false false 0) 0
  | .cmdClassify frame src => opw 0x80 (flags frame false src.bit 0) 0
  | .dataBind => opw 0x90 0 0
  | .dataDecode ich src => opw 0x91 (flags ich false src.bit 0) 0
  | .dataEncode => opw 0x92 0 0
  | .dataSize p => opw 0x93 0 p
  | .dataGetPhasor p => opw 0x94 0 p
  | .dataGetAnalog p => opw 0x95 0 p
  | .dataGetFreq p => opw 0x96 0 p
  | .dataGetRocof p => opw 0x97 0 p
  | .dataGetStat p => opw 0x98 0 p
  | .dataGetDig p => opw 0x99 0 p
  | .syncData => .wire 0xAA01
  | .syncHeader => .wire 0xAA11
  | .syncConfig1 => .wire 0xAA21
  | .syncConfig2 => .wire 0xAA31
  | .syncCommand => .wire 0xAA41
  | .syncConfig3 => .wire 0xAA52
  | .cmdwDataOff => .wire 0x0001
  | .cmdwDataOn => .wire 0x0002
  | .cmdwSendHdr => .wire 0x0003
  | .cmdwSendConfig1 => .wire 0x0004
  | .cmdwSendConfig2 => .wire 0x0005
  | .cmdwSendConfig3 => .wire 0x0006
  | .cmdwExtendedFrame => .wire 0x0008
  | .cmdwUser w => .wire w

/-- The bits of its word that an instruction reads: `OP`, the flag bits R131 lists for it, and `PMUX` where R130 lists it as
an operand; every bit of a word of a frame. -/
def Instr.readMask : Instr → Word
  | .crcCompute _ _ | .crcCheck _ _ | .hdrIdcode _ _ | .hdrSoc _ _ | .cmdClassify _ _ | .dataDecode _ _ => 0xFF050000
  | .crcGet _ | .hdrType _ | .hdrSize _ => 0xFF040000
  | .hdrFrac _ _ _ => 0xFF070000
  | .hdrStamp | .cfgSetPmuCount | .cfgGetPmuCount | .cfgSetGid | .cfgGetGid | .cfgSetTimeBase | .cfgGetTimeBase
  | .cfgSetDataRate | .cfgGetDataRate | .cfgSetSoc | .cfgGetSoc | .cfgSetFrac | .cfgGetFrac | .cfgEncode | .dataBind
  | .dataEncode => 0xFF000000
  | .cfgSetPid _ | .cfgGetPid _ | .cfgSetStn _ | .cfgGetStn _ | .cfgSetFnom _ | .cfgGetFnom _ | .cfgSetCcc _
  | .cfgGetCcc _ | .cfgIncCcc _ | .cfgSetNph _ | .cfgGetNph _ | .cfgSetNan _ | .cfgGetNan _ | .cfgSetNst _
  | .cfgGetNst _ | .cfgSetNames _ | .cfgSetFmtCoord _ | .cfgGetFmtCoord _ | .cfgSetFmtPhw _ | .cfgGetFmtPhw _
  | .cfgSetFmtAnw _ | .cfgGetFmtAnw _ | .cfgSetFmtFqw _ | .cfgGetFmtFqw _ | .cfgGetPhf _ | .cfgGetPht _ | .cfgGetAnf _
  | .cfgGetAnt _ | .cfgGetMskn _ | .cfgGetMskv _ | .dataSize _ | .dataGetPhasor _ | .dataGetAnalog _ | .dataGetFreq _
  | .dataGetRocof _ | .dataGetStat _ | .dataGetDig _ => 0xFF00FFFF
  | .cfgSetPhf _ _ | .cfgSetPht _ _ | .cfgSetAnf _ _ | .cfgSetAnt _ _ | .cfgSetMskn _ _ | .cfgSetMskv _ _ => 0xFF30FFFF
  | .hdrfBuild _ => 0xFF010000
  | .syncData | .syncHeader | .syncConfig1 | .syncConfig2 | .syncCommand | .syncConfig3 => 0xFFFF
  | .cmdwDataOff | .cmdwDataOn | .cmdwSendHdr | .cmdwSendConfig1 | .cmdwSendConfig2 | .cmdwSendConfig3 => 0xFFFF
  | .cmdwExtendedFrame | .cmdwUser _ => 0xFFFF

/-- The host's reading of an opcode-table word: a row of 32 bits is an operation word, which `CMD` holds as a value (R73); a
row of 16 bits is a word of a frame, which lies in a buffer most significant byte first. -/
def decodeTableWord (nbits w : Nat) : Option Instr :=
  if nbits = 32 then (decodeCmd (BitVec.ofNat 32 w)).toOption
  else if nbits = 16 then (decodeWire (BitVec.ofNat 8 (w / 256)) (BitVec.ofNat 8 w)).toOption
  else none

end Sys2Proof
end

