-- ==== Sys2Proof/Machine/HostPort.lean ====
section
/-! DEFINITION. Machine/HostPort.lean: the host's accesses to the block (R20, R21, R52, R60, R370) and the presentation of a
word to it. -/

namespace Sys2Proof.Machine

/-- The write of `CMD` that starts an operation (R20): `CMD` holds the word, the access is used up. -/
def State.latchCmd (s : State) (w : Word) (rest : List HostAccess) : State := { s with cmd := w, host := rest }

/-- An operation word outside R130's table: nothing is performed (R132). -/
def illegalOp (s : State) : Result := s.failed .illegalOp

/-- A write of an operand register (R21). -/
def State.withOperand (s : State) (r : OperandReg) (w : Word) : State :=
  match r with
  | .a0 => { s with a0 := w }
  | .a1 => { s with a1 := w }
  | .a2 => { s with a2 := w }

/-- The channel-name store with the list under a handle replaced (R52). -/
def State.withNames (s : State) (h : Word) (ns : List Name16) : State :=
  { s with names := (h, ns) :: s.names.filter (·.1 ≠ h) }

/-- Reset during a run (R370): every register of the block as R62 says, the buffers' contents unspecified anew. The name
store, the host and the machine's parameters are not the block's. -/
def State.afterReset (s : State) : State :=
  { State.reset with
    names := s.names, host := s.host, params := s.params, resets := s.resets + 1, binds := s.binds }

/-! ### The host address space (R6, R72) -/

/-- Every place, in the order an address is looked up. -/
def hostPlaces : List HostPlace := [.cmd, .a0, .a1, .a2, .r0, .r1, .status, .txLen, .rxb, .txb, .argb, .hb]

/-- The place of a buffer's bytes. -/
def bufferPlace : Buffer → HostPlace
  | .rxb => .rxb
  | .txb => .txb
  | .argb => .argb
  | .hb => .hb

/-- How many addresses a place takes: a buffer one for each byte, a register the one it is reached at (assumption 9). -/
def placeExtent (c : Params) : HostPlace → Nat
  | .rxb => c.size .rxb
  | .txb => c.size .txb
  | .argb => c.size .argb
  | .hb => c.size .hb
  | _ => 1

/-- A place holds an address. -/
def placeHolds (c : Params) (p : HostPlace) (addr : Nat) : Bool :=
  decide (c.addresses.address p ≤ addr ∧ addr < c.addresses.address p + placeExtent c p)

/-- What sits at an address, if anything does. Where the platform gives two places one address, the first of
`hostPlaces` (assumption 9). -/
def placeAt (c : Params) (addr : Nat) : Option HostPlace := hostPlaces.find? (placeHolds c · addr)

/-- The access that a store of a word is: only `CMD` and the operand registers are words that the host writes (R20 to R23,
R25). -/
def wordAccess (c : Params) (addr : Nat) (w : Word) : HostAccess :=
  match placeAt c addr with
  | some .cmd => .writeCmd w
  | some .a0 => .writeOperand .a0 w
  | some .a1 => .writeOperand .a1 w
  | some .a2 => .writeOperand .a2 w
  | _ => .storeWord addr w

/-- The access that a store of a byte is: a write of the buffer byte that sits there (R60). -/
def byteAccess (c : Params) (addr : Nat) (v : Byte) : HostAccess :=
  match placeAt c addr with
  | some .rxb => .writeByte .rxb (addr - c.addresses.rxb) v
  | some .txb => .writeByte .txb (addr - c.addresses.txb) v
  | some .argb => .writeByte .argb (addr - c.addresses.argb) v
  | some .hb => .writeByte .hb (addr - c.addresses.hb) v
  | _ => .storeByte addr v

/-- An access named by an address as the access of what sits there; where nothing fits it stays as it is. -/
def resolveAccess (c : Params) : HostAccess → HostAccess
  | .storeWord addr w => wordAccess c addr w
  | .storeByte addr v => byteAccess c addr v
  | access => access

/-- What a host read at an address gives, zero-extended; it changes nothing (R20, R22, R23, R25, R78, assumption 9). -/
def State.hostRead (s : State) (addr : Nat) : Option Word :=
  (placeAt s.params addr).map fun
    | .cmd => s.cmd
    | .a0 => s.a0
    | .a1 => s.a1
    | .a2 => s.a2
    | .r0 => s.r0
    | .r1 => s.r1
    | .status => s.status.setWidth 32
    | .txLen => s.txLen.setWidth 32
    | .rxb => (s.readByte .rxb (addr - s.params.addresses.rxb)).setWidth 32
    | .txb => (s.readByte .txb (addr - s.params.addresses.txb)).setWidth 32
    | .argb => (s.readByte .argb (addr - s.params.addresses.argb)).setWidth 32
    | .hb => (s.readByte .hb (addr - s.params.addresses.hb)).setWidth 32

/-- A host access that starts no operation, on the state that has used it up; a write to an address the buffer does not have,
or a store to an address where nothing of its width may be written, is a fault. -/
def hostAccess (s : State) : HostAccess → Result
  | .writeCmd _ => .next s
  | .writeOperand r w => .next (s.withOperand r w)
  | .writeByte b a v => if a < s.params.size b then .next (s.writeBytes b a [v]) else .fault (.noSuchAddress b a)
  | .setNames h ns => .next (s.withNames h ns)
  | .reset => .next s.afterReset
  | .storeWord addr _ => .fault (.noHostAddress addr)
  | .storeByte addr _ => .fault (.noHostAddress addr)

/-- The state with an operation word as the host's next access. -/
def State.presentCmd (s : State) (w : Word) : State := { s with host := .writeCmd w :: s.host }

/-- The state in which HDR.TYPE (CMD word 0x20000000) is about to read the two bytes `b0`, `b1` from `RXB[0..2)`. -/
def State.presentSync (s : State) (b0 b1 : Byte) : State :=
  { s.writeBytes .rxb 0 [b0, b1] with a0 := 0, a1 := 2, host := .writeCmd 0x20000000 :: s.host }

/-- The state in which CMD.CLASSIFY in word mode (CMD word 0x80000000) is about to read the word `w` from `A0`. -/
def State.presentCommandWord (s : State) (w : Half) : State :=
  { s with a0 := w.setWidth 32, host := .writeCmd 0x80000000 :: s.host }

end Sys2Proof.Machine
end

