-- ==== Sys2Proof/Machine/Step.lean ====
section
/-! DEFINITION. Machine/Step.lean: one step is one access of the host: a write of `CMD` runs the operation it selects, whole
(R20, R80). -/

namespace Sys2Proof.Machine

/-- An access of the host, `rest` being those still to come: a write of `CMD` runs the operation it selects; an illegal
operation word performs nothing (R132). -/
def runAccess (s : State) (rest : List HostAccess) : HostAccess → Host.Outcome State Fault Refusal
  | .writeCmd w =>
    match decodeCmd w with
    | .ok i => exec i (s.latchCmd w rest)
    | .error _ => illegalOp (s.latchCmd w rest)
  | access => hostAccess { s with host := rest } access

/-- One step. With no access of the host left the block is idle (R350). -/
def step (s : State) : Host.Outcome State Fault Refusal :=
  match s.host with
  | [] => .next s
  | access :: rest => runAccess s rest (resolveAccess s.params access)

/-- The state whose next step runs the instruction with the given bits: an operation word is the host's next write of `CMD`;
a SYNC word or a command word is presented to the operation that recognises it (assumption 6). -/
def State.withFetchWord (s : State) (nbits w : Nat) : State :=
  if nbits = 32 then s.presentCmd (BitVec.ofNat 32 w)
  else if nbits = 16 then
    if w / 256 = 0xAA then s.presentSync (BitVec.ofNat 8 (w / 256)) (BitVec.ofNat 8 w)
    else s.presentCommandWord (BitVec.ofNat 16 w)
  else s

end Sys2Proof.Machine
end

