-- ==== Sys2Proof/Safety.lean ====
section
/-! DEFINITION. Safety.lean: the invariant of the machine and the terms the statements are written in. -/

namespace Sys2Proof.Machine

/-- A slot's tables agree with its counts and capacities, and its binding bit with its handle (R44, R45, R51). -/
def PmuSlot.wf (c : Params) (x : PmuSlot) : Bool :=
  decide (x.convFactorPhasor.length = x.numPhasors.toNat ∧ x.convFactorAnalog.length = x.numAnalogs.toNat ∧
    x.statusWordMasks.length = x.numStatusWords.toNat ∧ x.numPhasors.toNat ≤ c.maxPhasors ∧
    x.numAnalogs.toNat ≤ c.maxAnalogs ∧ x.numStatusWords.toNat ≤ c.maxStatus ∧
    x.namesBound = decide (x.namesHandle ≠ 0))

/-- A value has its class's width (R57). -/
def Value.fits (wide : Bool) : Value → Bool
  | .int16 _ => !wide
  | .float32 _ => wide

/-- A sample has as many values as the snapshot counts, each of the snapshot's width (R56, R57). -/
def SampleSlot.wf (x : SampleSlot) : Bool :=
  decide (x.ph.length = x.snapNph.toNat ∧ x.an.length = x.snapNan.toNat ∧ x.dig.length = x.snapNst.toNat) &&
  x.ph.all (fun v => v.1.fits x.snapPhw && v.2.fits x.snapPhw) && x.an.all (·.fits x.snapAnw) &&
  x.fdev.fits x.snapFqw && x.rocof.fits x.snapFqw

/-- What holds of the machine between operations. -/
structure State.Inv (s : State) : Prop where
  /-- The parameters lie in the ranges of R6. -/
  params : s.params.wf = true
  /-- Each buffer is in canonical form and holds no byte past its size (R60). -/
  rxb : Memory.wf (s.params.size .rxb) s.rxb = true
  txb : Memory.wf (s.params.size .txb) s.txb = true
  argb : Memory.wf (s.params.size .argb) s.argb = true
  hb : Memory.wf (s.params.size .hb) s.hb = true
  /-- `num_pmu` is the length of the table and at most `MAX_PMU` (R32). -/
  numPmu : s.pmus.length = s.g.numPmu.toNat
  maxPmu : s.g.numPmu.toNat ≤ s.params.maxPmu
  /-- R44, R45, R51. -/
  slots : ∀ x ∈ s.pmus, x.wf s.params = true
  /-- The snapshot table has `bound_n` entries (R56). -/
  boundN : s.samples.length = s.d.boundN.toNat
  /-- R57. -/
  samples : ∀ x ∈ s.samples, x.wf = true
  /-- An unbound codec has no entry and no sample (R55, R58, R62, R300). -/
  unbound : s.d.bound = false → s.d.boundN = 0 ∧ s.d.sampleValid = false ∧ s.d.statValid = false
  /-- STAT is given only by a decode that gives the whole sample (R58). -/
  statValid : s.d.statValid = true → s.d.sampleValid = true
  /-- Codes 15 to 255 are never written (R340). -/
  status : s.status.toNat ≤ 14
  /-- Between operations `CUR` has no value (R24). -/
  cur : s.cur = none

/-- `STATUS` holds the code of a failure. -/
def State.isFailure (s : State) : Bool := s.status ≠ 0

/-- The four operations that write a buffer (R70). -/
def storesBytes : Instr → Bool
  | .cfgGetStn _ | .cfgEncode | .hdrfBuild _ | .dataEncode => true
  | _ => false

/-- The three encoders. -/
def isEncoder : Instr → Bool
  | .cfgEncode | .hdrfBuild _ | .dataEncode => true
  | _ => false

/-- The operations that write the data codec's registers (R300, R305). -/
def writesCodec : Instr → Bool
  | .dataBind | .dataDecode _ _ => true
  | _ => false

/-- The operations that write the configuration `G`, `P`: the setters, CFG.INC_CCC and HDR.STAMP (R31 to R50, R177). -/
def writesConfig : Instr → Bool
  | .hdrStamp | .cfgSetPmuCount | .cfgSetGid | .cfgSetTimeBase | .cfgSetDataRate | .cfgSetSoc | .cfgSetFrac
  | .cfgSetPid _ | .cfgSetStn _ | .cfgSetFnom _ | .cfgSetCcc _ | .cfgIncCcc _ | .cfgSetNph _ | .cfgSetNan _
  | .cfgSetNst _ | .cfgSetNames _ | .cfgSetFmtCoord _ | .cfgSetFmtPhw _ | .cfgSetFmtAnw _ | .cfgSetFmtFqw _
  | .cfgSetPhf _ _ | .cfgSetPht _ _ | .cfgSetAnf _ _ | .cfgSetAnt _ _ | .cfgSetMskn _ _ | .cfgSetMskv _ _ => true
  | _ => false

/-- `FLG[k]` of a `CMD` word (R20, R130). -/
def cmdFlag (k : Nat) (w : Word) : Bool := w.getLsbD (16 + k)

/-- `PMUX` of a `CMD` word (R20, R130). -/
def cmdPmux (w : Word) : PmuIndex := BitVec.ofNat 16 w.toNat

/-- The buffer that `BUFSEL`, `FLG[2]`, of a `CMD` word selects (R71, R131). -/
def cmdSource (w : Word) : Source := if cmdFlag 2 w then .txb else .rxb

/-- The form that `SCOPE`, `FLG[5:4]`, of a `CMD` word selects (R131). -/
def cmdScope (w : Word) : Scope :=
  if cmdFlag 5 w then (if cmdFlag 4 w then .reserved else .allPmu) else (if cmdFlag 4 w then .all else .one)

/-- Every `CMD` word whose `OP` is `op` selects the operation `i` reads from that word (R130, R131). -/
def Selects (op : Nat) (i : Word → Instr) : Prop := ∀ w : Word, w.toNat / 2 ^ 24 = op → decodeCmd w = .ok (i w)

end Sys2Proof.Machine
end

