-- ==== Sys2Proof/Certificates/Slice0/Obligations.lean ====
section
/-! DEFINITION. Certificates/Slice0/Obligations.lean: the statements for the provers. A failed operation is written out as
the state with `STATUS` at the code of R340 and `R0`, `R1` at 0; an equation with a whole record says what does not change. -/

open Sys2Proof Sys2Proof.Machine

/-! ### Reset, the step and the host -/

/-- R62: State.reset has every register of the block at the value of R62's table, and so has the state after the host
asserts reset in a run; the name store is unaffected. That an unknown byte is a free value, and that reset is one of the
host's accesses, are the model's choices, log entries 3 and 1. -/
def Obligations.ResetGivesEveryRegisterItsResetValue : Prop :=
  (∀ t : State, (t = State.reset ∨ ∃ s rest, s.host = .reset :: rest ∧ step s = .next t) →
    t.cmd = 0 ∧ t.a0 = 0 ∧ t.a1 = 0 ∧ t.a2 = 0 ∧ t.r0 = 0 ∧ t.r1 = 0 ∧ t.status = 0 ∧ t.txLen = 0 ∧ t.cur = none ∧
    t.g.idCode = 0 ∧ t.g.numPmu = 0 ∧ t.g.timeBase = 0 ∧ t.g.epochSeconds = 0 ∧ t.g.fracOfSecond = 0 ∧
    t.g.dataRate = 0 ∧ t.pmus = [] ∧ t.d.bound = false ∧ t.d.boundN = 0 ∧ t.d.sampleValid = false ∧
    t.d.statValid = false ∧ t.samples = [] ∧ ∀ b a, t.readByte b a = Config.unwrittenByte t.resets b a) ∧
  ∀ (s : State) (rest : List HostAccess), s.host = .reset :: rest →
    ∃ t, step s = .next t ∧ t.names = s.names ∧ t.host = rest ∧ t.params = s.params

/-- The invariant of Safety.lean holds at reset. -/
def Obligations.ResetStateMeetsTheInvariant : Prop := State.reset.Inv

/-- Every step from every state that meets the invariant leads to a state that meets it: the tables agree with their counts
(R51, R32), the capacities bound the counts (R44), the snapshot and its samples agree (R56, R57), the validity flags are
ordered (R58), no status code past 14 is written (R340), and every buffer stays canonical and inside its size (R60). -/
def Obligations.EveryStepKeepsTheInvariant : Prop :=
  ∀ s t : State, s.Inv → step s = .next t → t.Inv

/-- R20, R80: a write of `CMD` whose word decodes to an instruction runs that instruction, `CMD` holding the word. That the
host's accesses are steps is the model's choice, log entry 1. -/
def Obligations.WritingCmdRunsTheDecodedOperation : Prop :=
  ∀ (s : State) (w : Word) (rest : List HostAccess) (i : Instr),
    s.host = .writeCmd w :: rest → decodeCmd w = .ok i → step s = exec i { s with cmd := w, host := rest }

/-- R350: with no access of the host left, a step changes nothing: the model's choice, log entry 1. -/
def Obligations.IdleBlockChangesNothing : Prop := ∀ s : State, s.host = [] → step s = .next s

/-- R21, R52, R60: a host access that starts no operation writes its register, its byte or its name list and nothing else. A
byte past the end of its buffer does not exist, and the machine stops: the model's choice, log entry 7. That the accesses are
steps is log entry 1. -/
def Obligations.HostAccessWritesItsTargetOnly : Prop :=
  ∀ (s : State) (rest : List HostAccess),
    (∀ w, s.host = .writeOperand .a0 w :: rest → step s = .next { s with a0 := w, host := rest }) ∧
    (∀ w, s.host = .writeOperand .a1 w :: rest → step s = .next { s with a1 := w, host := rest }) ∧
    (∀ w, s.host = .writeOperand .a2 w :: rest → step s = .next { s with a2 := w, host := rest }) ∧
    (∀ b a v, s.host = .writeByte b a v :: rest → a < s.params.size b →
      ∃ m t, t = State.withMem { s with host := rest } b m ∧ step s = .next t ∧ t.readByte b a = v ∧
        ∀ c x, ¬ (c = b ∧ x = a) → t.readByte c x = s.readByte c x) ∧
    (∀ b a v, s.host = .writeByte b a v :: rest → s.params.size b ≤ a → step s = .fault (.noSuchAddress b a)) ∧
    (∀ h ns, s.host = .setNames h ns :: rest →
      ∃ t, step s = .next t ∧ t = { s with names := t.names, host := rest } ∧ t.namesAt h = ns ∧
        ∀ h', h' ≠ h → t.namesAt h' = s.namesAt h')

/-- R6, R72: a store or a read of the host at an address that one place holds is the access of that place: a word store to
`CMD` or an operand register writes it, a byte store to a buffer writes its byte, a read gives what sits there; any other
store stops the machine. The addresses are OPEN; what a store of each width may reach is the model's choice, log entry 9. -/
def Obligations.HostAddressesReachWhatSitsThere : Prop :=
  ∀ (s : State) (rest : List HostAccess) (addr : Nat) (p : HostPlace),
    let m := s.params.addresses
    let holds := fun q : HostPlace => m.address q ≤ addr ∧ addr < m.address q +
      if q = .rxb ∨ q = .txb then s.params.bufBytes else if q = .argb then s.params.argBytes
      else if q = .hb then 4 else 1
    let read := fun (b : Buffer) (q : HostPlace) => (s.readByte b (addr - m.address q)).setWidth 32
    let wordStored := fun w : Word => match p with
      | .cmd => step { s with host := .writeCmd w :: rest }
      | .a0 => .next { s with a0 := w, host := rest }
      | .a1 => .next { s with a1 := w, host := rest }
      | .a2 => .next { s with a2 := w, host := rest }
      | _ => .fault (.noHostAddress addr)
    let byteStored := fun v : Byte => match p with
      | .rxb => step { s with host := .writeByte .rxb (addr - m.rxb) v :: rest }
      | .txb => step { s with host := .writeByte .txb (addr - m.txb) v :: rest }
      | .argb => step { s with host := .writeByte .argb (addr - m.argb) v :: rest }
      | .hb => step { s with host := .writeByte .hb (addr - m.hb) v :: rest }
      | _ => .fault (.noHostAddress addr)
    let seen : Word := match p with
      | .cmd => s.cmd
      | .a0 => s.a0
      | .a1 => s.a1
      | .a2 => s.a2
      | .r0 => s.r0
      | .r1 => s.r1
      | .status => s.status.setWidth 32
      | .txLen => s.txLen.setWidth 32
      | .rxb => read .rxb .rxb
      | .txb => read .txb .txb
      | .argb => read .argb .argb
      | .hb => read .hb .hb
    (holds p → (∀ q, holds q → q = p) →
      (∀ w, s.host = .storeWord addr w :: rest → step s = wordStored w) ∧
      (∀ v, s.host = .storeByte addr v :: rest → step s = byteStored v) ∧ s.hostRead addr = some seen) ∧
    ((∀ q, ¬ holds q) →
      (∀ w, s.host = .storeWord addr w :: rest → step s = .fault (.noHostAddress addr)) ∧
      (∀ v, s.host = .storeByte addr v :: rest → step s = .fault (.noHostAddress addr)) ∧ s.hostRead addr = none)

/-- R132: an operation word whose `OP` lies in one of the ranges R132 lists performs nothing and reports ILLEGAL_OP; every
other word selects an operation; and encoding a CONFIG3 frame is refused with UNSUPPORTED. -/
def Obligations.OperationsOutsideTheTableAreIllegal : Prop :=
  (∀ (s : State) (w : Word) (rest : List HostAccess), s.host = .writeCmd w :: rest →
    let op := w.toNat / 2 ^ 24
    let illegal := op ≤ 0x0F ∨ (0x13 ≤ op ∧ op ≤ 0x1F) ∨ (0x26 ≤ op ∧ op ≤ 0x2F) ∨ (0x3C ≤ op ∧ op ≤ 0x3F) ∨
      (0x49 ≤ op ∧ op ≤ 0x4F) ∨ op = 0x57 ∨ (0x6C ≤ op ∧ op ≤ 0x6F) ∨ (0x72 ≤ op ∧ op ≤ 0x7F) ∨
      (0x81 ≤ op ∧ op ≤ 0x8F) ∨ 0x9A ≤ op
    (illegal → step s = .next { s with cmd := w, host := rest, status := 13, r0 := 0, r1 := 0 }) ∧
    (¬ illegal → ∃ i, decodeCmd w = .ok i)) ∧
  ∀ s : State, s.a0 = 3 → exec .cfgEncode s = .next { s with status := 12, r0 := 0, r1 := 0 }

/-! ### Encodings -/

/-- Decoding the code of any well-formed instruction gives the instruction back, every operand at every value. -/
def Obligations.DecodeReturnsWhatWasEncoded : Prop := ∀ i : Instr, i.wf = true → decode (encode i) = .ok i

/-- An operation word and the code of the operation it selects agree on every bit the operation reads, and a word that
differs from it only in other bits selects the same operation (R131). -/
def Obligations.OperationsIgnoreTheBitsTheyDoNotRead : Prop :=
  ∀ (w : Word) (i : Instr), decodeCmd w = .ok i →
    encode i = .cmd (w &&& i.readMask) ∧
    ∀ v : Word, v &&& i.readMask = w &&& i.readMask → decodeCmd v = .ok i

/-- A 16-bit word of a frame that decodes to an instruction is that instruction's code, and the instruction is well formed
(R103, R120). -/
def Obligations.WireWordsHaveOneMeaning : Prop :=
  ∀ (w : Half) (i : Instr), decode (.wire w) = .ok i → encode i = .wire w ∧ i.wf = true

/-- A few words written out from R130, R131 and R134, R103 and R120. -/
def Obligations.WrittenOutWordsDecode : Prop :=
  decodeCmd 0x12040000 = .ok (.crcCheck false .txb) ∧ decodeCmd 0x24070000 = .ok (.hdrFrac true true .txb) ∧
  decodeCmd 0x42000001 = .ok (.cfgSetStn 1) ∧ decodeCmd 0x60100001 = .ok (.cfgSetPhf 1 .all) ∧
  decodeCmd 0x60200000 = .ok (.cfgSetPhf 0 .allPmu) ∧ decodeCmd 0x71010000 = .ok (.hdrfBuild true) ∧
  decodeCmd 0x80010000 = .ok (.cmdClassify true .rxb) ∧ decodeCmd 0x91010000 = .ok (.dataDecode true .rxb) ∧
  decodeTableWord 16 0xAA52 = some .syncConfig3 ∧ decodeTableWord 16 0x0008 = some .cmdwExtendedFrame ∧
  decodeTableWord 16 0x1F34 = some (.cmdwUser 0x1F34)

/-- A SYNC word of R103 at the first presented byte is run by HDR.TYPE (R170): the step is that row's meaning. That a row of
SYNC words has this meaning is the model's choice, log entry 6. -/
def Obligations.SyncWordsAreRunByHdrType : Prop :=
  ∀ (s : State) (w : Word) (rest : List HostAccess) (src : Source) (i : Instr),
    s.host = .writeCmd w :: rest → decodeCmd w = .ok (.hdrType src) →
    s.a0.toNat + s.a1.toNat ≤ s.params.bufBytes → 2 ≤ s.a1.toNat →
    decodeSync (s.readByte (srcBuffer src) s.a0.toNat) (s.readByte (srcBuffer src) (s.a0.toNat + 1)) = .ok i →
    step s = exec i { s with cmd := w, host := rest }

/-- A command word of R120 is run by CMD.CLASSIFY (R290), from `A0` or from a frame: the step is that row's meaning. That a
row of command words has this meaning is the model's choice, log entry 6. -/
def Obligations.CommandWordsAreRunByCmdClassify : Prop :=
  ∀ (s : State) (w : Word) (rest : List HostAccess) (src : Source) (i : Instr), s.host = .writeCmd w :: rest →
    (decodeCmd w = .ok (.cmdClassify false src) → decodeCommandWord (s.a0.setWidth 16) = .ok i →
      step s = exec i { s with cmd := w, host := rest }) ∧
    (decodeCmd w = .ok (.cmdClassify true src) → s.a0.toNat + s.a1.toNat ≤ s.params.bufBytes →
      s.a2.toNat + 2 ≤ s.a1.toNat →
      decodeCommandWord (s.read16 (srcBuffer src) (s.a0.toNat + s.a2.toNat)) = .ok i →
      step s = exec i { s with cmd := w, host := rest })

/-- The rows of SYNC words and command words: the kind's code of R133 in `R0`, the type byte or the word in `R1`, nothing
else changed. The reading is the model's choice, log entry 6. -/
def Obligations.WireWordRowsGiveTheirKind : Prop :=
  ∀ s : State,
    exec .syncData s = .next { s with status := 0, r0 := 1, r1 := 0x01 } ∧
    exec .syncHeader s = .next { s with status := 0, r0 := 2, r1 := 0x11 } ∧
    exec .syncConfig1 s = .next { s with status := 0, r0 := 3, r1 := 0x21 } ∧
    exec .syncConfig2 s = .next { s with status := 0, r0 := 4, r1 := 0x31 } ∧
    exec .syncCommand s = .next { s with status := 0, r0 := 5, r1 := 0x41 } ∧
    exec .syncConfig3 s = .next { s with status := 0, r0 := 6, r1 := 0x52 } ∧
    exec .cmdwDataOff s = .next { s with status := 0, r0 := 1, r1 := 1 } ∧
    exec .cmdwDataOn s = .next { s with status := 0, r0 := 2, r1 := 2 } ∧
    exec .cmdwSendHdr s = .next { s with status := 0, r0 := 3, r1 := 3 } ∧
    exec .cmdwSendConfig1 s = .next { s with status := 0, r0 := 4, r1 := 4 } ∧
    exec .cmdwSendConfig2 s = .next { s with status := 0, r0 := 5, r1 := 5 } ∧
    exec .cmdwSendConfig3 s = .next { s with status := 0, r0 := 6, r1 := 6 } ∧
    exec .cmdwExtendedFrame s = .next { s with status := 0, r0 := 7, r1 := 8 } ∧
    ∀ w : Half, w &&& 0x0F00 = 0x0F00 →
      exec (.cmdwUser w) s = .next { s with status := 0, r0 := 8, r1 := w.setWidth 32 }

/-! ### CRC16 -/

/-- R150: `crc_step` in unbounded integers, truncated to 16 bits at the end; the default shift is 7; the worked example for
both values. -/
def Obligations.CrcStepFollowsItsFormula : Prop :=
  (∀ (shift : Nat) (crc : Half) (b : Byte),
    let temp := (crc.toNat / 256) ^^^ b.toNat
    let q := temp ^^^ (temp / 16)
    (crcStep shift crc b).toNat = ((crc.toNat * 256) ^^^ q ^^^ (q * 32) ^^^ (q * 2 ^ shift)) % 65536) ∧
  State.reset.params.crcShift3 = 7 ∧ crcStep 7 0xFFFF 0xAA = 0xDD50 ∧ crcStep 12 0xFFFF 0xAA = 0xF550

/-- R152: CRC.COMPUTE. The running value starts at 0xFFFF and takes `HB` first when `HDR` is set. -/
def Obligations.CrcComputeFoldsThePresentedBytes : Prop :=
  Selects 0x10 (fun w => .crcCompute (cmdFlag 0 w) (cmdSource w)) ∧
  ∀ (s : State) (hdr : Bool) (src : Source),
    (s.a0.toNat + s.a1.toNat ≤ s.params.bufBytes →
      exec (.crcCompute hdr src) s = .next { s with
        status := 0
        r0 := (((if hdr then s.readBytes .hb 0 4 else []) ++
          s.readBytes (if src = .rxb then .rxb else .txb) s.a0.toNat s.a1.toNat).foldl
            (crcStep s.params.crcShift3) 0xFFFF).setWidth 32
        r1 := 0 }) ∧
    (s.params.bufBytes < s.a0.toNat + s.a1.toNat →
      exec (.crcCompute hdr src) s = .next { s with status := 5, r0 := 0, r1 := 0 })

/-- R153: CRC.GET, a big-endian 16-bit read. -/
def Obligations.CrcGetReadsTwoBytes : Prop :=
  Selects 0x11 (fun w => .crcGet (cmdSource w)) ∧
  ∀ (s : State) (src : Source),
    (s.a0.toNat + 2 ≤ s.params.bufBytes →
      exec (.crcGet src) s = .next { s with
        status := 0
        r0 := BitVec.ofNat 32 ((s.readByte (if src = .rxb then .rxb else .txb) s.a0.toNat).toNat * 256 +
          (s.readByte (if src = .rxb then .rxb else .txb) (s.a0.toNat + 1)).toNat)
        r1 := 0 }) ∧
    (s.params.bufBytes < s.a0.toNat + 2 → exec (.crcGet src) s = .next { s with status := 5, r0 := 0, r1 := 0 })

/-- R154: CRC.CHECK, its four outcomes in the order of its checks. -/
def Obligations.CrcCheckComparesWithTheTrailer : Prop :=
  Selects 0x12 (fun w => .crcCheck (cmdFlag 0 w) (cmdSource w)) ∧
  ∀ (s : State) (hdr : Bool) (src : Source),
    (s.a1.toNat < 2 → exec (.crcCheck hdr src) s = .next { s with status := 1, r0 := 0, r1 := 0 }) ∧
    (2 ≤ s.a1.toNat → s.params.bufBytes < s.a0.toNat + s.a1.toNat →
      exec (.crcCheck hdr src) s = .next { s with status := 5, r0 := 0, r1 := 0 }) ∧
    (2 ≤ s.a1.toNat → s.a0.toNat + s.a1.toNat ≤ s.params.bufBytes →
      let buf := if src = .rxb then Buffer.rxb else Buffer.txb
      let crc := ((if hdr then s.readBytes .hb 0 4 else []) ++ s.readBytes buf s.a0.toNat (s.a1.toNat - 2)).foldl
        (crcStep s.params.crcShift3) 0xFFFF
      (crc = s.read16 buf (s.a0.toNat + s.a1.toNat - 2) →
        exec (.crcCheck hdr src) s = .next { s with status := 0, r0 := 1, r1 := crc.setWidth 32 }) ∧
      (crc ≠ s.read16 buf (s.a0.toNat + s.a1.toNat - 2) →
        exec (.crcCheck hdr src) s = .next { s with status := 2, r0 := 0, r1 := 0 }))

/-- R155: for either value of `CRC_SHIFT3` and any bytes `m`, the check of `m` with its CRC appended succeeds, and with any
one bit of those bytes flipped it fails. -/
def Obligations.AppendedCrcPassesAndOneFlippedBitFails : Prop :=
  ∀ (s : State) (src : Source) (m : Bytes),
    (s.params.crcShift3 = 7 ∨ s.params.crcShift3 = 12) →
    s.a1.toNat = m.length + 2 → s.a0.toNat + s.a1.toNat ≤ s.params.bufBytes →
    let framed := m ++ bytesBe16 (crc16 s.params.crcShift3 m)
    (s.readBytes (srcBuffer src) s.a0.toNat s.a1.toNat = framed →
      exec (.crcCheck false src) s =
        .next { s with status := 0, r0 := 1, r1 := (crc16 s.params.crcShift3 m).setWidth 32 }) ∧
    ∀ i j : Nat, i < framed.length → j < 8 →
      s.readBytes (srcBuffer src) s.a0.toNat s.a1.toNat = framed.modify i (fun b => b ^^^ BitVec.ofNat 8 (2 ^ j)) →
      exec (.crcCheck false src) s = .next { s with status := 2, r0 := 0, r1 := 0 }

/-- R156: with the first four bytes of a frame in `HB`, the header-folded CRC of the rest is the CRC of the whole. Offsets and
lengths are 32-bit operands (R21). -/
def Obligations.HeaderFoldGivesTheWholeFrameCrc : Prop :=
  ∀ (s : State) (src : Source) (o n : Nat), o + 4 + n ≤ s.params.bufBytes → o + 4 + n < 2 ^ 32 →
    s.readBytes .hb 0 4 = s.readBytes (srcBuffer src) o 4 →
    ∃ v : Word,
      exec (.crcCompute false src) { s with a0 := BitVec.ofNat 32 o, a1 := BitVec.ofNat 32 (4 + n) } =
        .next { s with a0 := BitVec.ofNat 32 o, a1 := BitVec.ofNat 32 (4 + n), status := 0, r0 := v, r1 := 0 } ∧
      exec (.crcCompute true src) { s with a0 := BitVec.ofNat 32 (o + 4), a1 := BitVec.ofNat 32 n } =
        .next { s with a0 := BitVec.ofNat 32 (o + 4), a1 := BitVec.ofNat 32 n, status := 0, r0 := v, r1 := 0 }

/-! ### Frame header utilities -/

/-- R170: HDR.TYPE. The kinds' codes are those of R133. -/
def Obligations.HdrTypeGivesTheFrameKind : Prop :=
  Selects 0x20 (fun w => .hdrType (cmdSource w)) ∧
  ∀ (s : State) (src : Source),
    let b0 := s.readByte (if src = .rxb then .rxb else .txb) s.a0.toNat
    let b1 := s.readByte (if src = .rxb then .rxb else .txb) (s.a0.toNat + 1)
    let kinds : List (Byte × Word) := [(0x01, 1), (0x11, 2), (0x21, 3), (0x31, 4), (0x41, 5), (0x52, 6)]
    (s.params.bufBytes < s.a0.toNat + s.a1.toNat → exec (.hdrType src) s = .next { s with status := 5, r0 := 0, r1 := 0 }) ∧
    (s.a0.toNat + s.a1.toNat ≤ s.params.bufBytes → s.a1.toNat < 2 →
      exec (.hdrType src) s = .next { s with status := 1, r0 := 0, r1 := 0 }) ∧
    (s.a0.toNat + s.a1.toNat ≤ s.params.bufBytes → 2 ≤ s.a1.toNat →
      ((b0 ≠ 0xAA ∨ ∀ k ∈ kinds, b1 ≠ k.1) →
        exec (.hdrType src) s = .next { s with status := 1, r0 := 0, r1 := 0 }) ∧
      ∀ k ∈ kinds, b0 = 0xAA → b1 = k.1 →
        exec (.hdrType src) s = .next { s with status := 0, r0 := k.2, r1 := b1.setWidth 32 })

/-- R171, R172, R173: HDR.SIZE at offset 2, HDR.IDCODE at 4 or 2, HDR.SOC at 6 or 4, each short of its last byte a
MALFORMED_FRAME and past the buffer an OVERRUN. -/
def Obligations.HdrFieldsAreFixedOffsetReads : Prop :=
  Selects 0x21 (fun w => .hdrSize (cmdSource w)) ∧
  Selects 0x22 (fun w => .hdrIdcode (cmdFlag 0 w) (cmdSource w)) ∧
  Selects 0x23 (fun w => .hdrSoc (cmdFlag 0 w) (cmdSource w)) ∧
  ∀ (s : State) (strip : Bool) (src : Source),
    let buf := if src = .rxb then Buffer.rxb else Buffer.txb
    let oId := if strip then 2 else 4
    let oSoc := if strip then 4 else 6
    (s.params.bufBytes < s.a0.toNat + s.a1.toNat → ∀ i ∈ [Instr.hdrSize src, .hdrIdcode strip src, .hdrSoc strip src],
      exec i s = .next { s with status := 5, r0 := 0, r1 := 0 }) ∧
    (s.a0.toNat + s.a1.toNat ≤ s.params.bufBytes →
      (s.a1.toNat < 4 → exec (.hdrSize src) s = .next { s with status := 1, r0 := 0, r1 := 0 }) ∧
      (4 ≤ s.a1.toNat → exec (.hdrSize src) s =
        .next { s with status := 0, r0 := (s.read16 buf (s.a0.toNat + 2)).setWidth 32, r1 := 0 }) ∧
      (s.a1.toNat < oId + 2 → exec (.hdrIdcode strip src) s = .next { s with status := 1, r0 := 0, r1 := 0 }) ∧
      (oId + 2 ≤ s.a1.toNat → exec (.hdrIdcode strip src) s =
        .next { s with status := 0, r0 := (s.read16 buf (s.a0.toNat + oId)).setWidth 32, r1 := 0 }) ∧
      (s.a1.toNat < oSoc + 4 → exec (.hdrSoc strip src) s = .next { s with status := 1, r0 := 0, r1 := 0 }) ∧
      (oSoc + 4 ≤ s.a1.toNat → exec (.hdrSoc strip src) s =
        .next { s with status := 0, r0 := s.read32 buf (s.a0.toNat + oSoc), r1 := 0 }))

/-- R175: HDR.FRAC. The 64-bit result is the raw word, or its exact product with the floor of 10^9 / `A2`. -/
def Obligations.HdrFracRescalesExactly : Prop :=
  Selects 0x24 (fun w => .hdrFrac (cmdFlag 0 w) (cmdFlag 1 w) (cmdSource w)) ∧
  ∀ (s : State) (strip rescale : Bool) (src : Source),
    let o := if strip then 8 else 10
    let raw := (s.read32 (if src = .rxb then .rxb else .txb) (s.a0.toNat + o)).toNat
    let v := if rescale = true ∧ s.a2 ≠ 0 then raw * (1000000000 / s.a2.toNat) else raw
    (s.params.bufBytes < s.a0.toNat + s.a1.toNat →
      exec (.hdrFrac strip rescale src) s = .next { s with status := 5, r0 := 0, r1 := 0 }) ∧
    (s.a0.toNat + s.a1.toNat ≤ s.params.bufBytes → s.a1.toNat < o + 4 →
      exec (.hdrFrac strip rescale src) s = .next { s with status := 1, r0 := 0, r1 := 0 }) ∧
    (s.a0.toNat + s.a1.toNat ≤ s.params.bufBytes → o + 4 ≤ s.a1.toNat →
      exec (.hdrFrac strip rescale src) s =
        .next { s with status := 0, r0 := BitVec.ofNat 32 v, r1 := BitVec.ofNat 32 (v / 2 ^ 32) } ∧ v < 2 ^ 62)

/-- R176: HDR.STAMP. The fraction count is `floor(ns * time_base / 10^9)` masked to 24 bits, the top byte is kept. -/
def Obligations.HdrStampKeepsTheTopByte : Prop :=
  Selects 0x25 (fun _ => .hdrStamp) ∧
  ∀ s : State,
    (1000000000 ≤ s.a1.toNat → exec .hdrStamp s = .next { s with status := 10, r0 := 0, r1 := 0 }) ∧
    (s.g.timeBase = 0 → exec .hdrStamp s = .next { s with status := 10, r0 := 0, r1 := 0 }) ∧
    (s.a1.toNat < 1000000000 → s.g.timeBase ≠ 0 →
      ∃ frac : Word,
        exec .hdrStamp s = .next { s with
          g := { s.g with epochSeconds := s.a0, fracOfSecond := frac }, status := 0, r0 := 0, r1 := 0 } ∧
        frac.toNat / 2 ^ 24 = s.g.fracOfSecond.toNat / 2 ^ 24 ∧
        frac.toNat % 2 ^ 24 = s.a1.toNat * s.g.timeBase.toNat / 1000000000 % 2 ^ 24)

/-! ### Configuration scalars -/

/-- R201 with R63: CFG.SET_PMU_COUNT. Slots up to the smaller count keep every field, slots past the old count are fresh,
slots past the new count do not exist; past `MAX_PMU` nothing changes. -/
def Obligations.SetPmuCountKeepsOldSlotsAndAddsFreshOnes : Prop :=
  Selects 0x30 (fun _ => .cfgSetPmuCount) ∧
  ∀ s : State,
    (s.params.maxPmu < s.a0.toNat →
      exec .cfgSetPmuCount s = .next { s with status := 3, r0 := 0, r1 := 0 }) ∧
    (s.a0.toNat ≤ s.params.maxPmu → s.params.maxPmu ≤ 65535 → s.pmus.length = s.g.numPmu.toNat →
      ∃ ps : List PmuSlot,
        exec .cfgSetPmuCount s = .next { s with
          g := { s.g with numPmu := s.a0.setWidth 16 }, pmus := ps, status := 0, r0 := 0, r1 := 0 } ∧
        ps.length = s.a0.toNat ∧
        (∀ k, k < s.a0.toNat → k < s.g.numPmu.toNat → ps[k]? = s.pmus[k]?) ∧
        (∀ k, k < s.a0.toNat → s.g.numPmu.toNat ≤ k → ps[k]? = some {
          stationName := Vector.replicate 16 0, idCode := 0, fmtCoord := false, fmtPhw := false, fmtAnw := false,
          fmtFqw := false, numPhasors := 0, numAnalogs := 0, numStatusWords := 0, namesBound := false,
          namesHandle := 0, convFactorPhasor := [], convFactorAnalog := [], statusWordMasks := [],
          nominalFreq := s.params.nominalFreqDefault, confChangeCount := 0 }))

/-- R203, R205, R207, R209, R212: the setters of the global fields; 16-bit fields take the low half of `A0`. -/
def Obligations.GlobalSettersWriteTheirField : Prop :=
  (∀ r ∈ [((0x32 : Nat), Instr.cfgSetGid), (0x34, .cfgSetTimeBase), (0x36, .cfgSetDataRate), (0x38, .cfgSetSoc),
      (0x3A, .cfgSetFrac)], Selects r.1 fun _ => r.2) ∧
  ∀ s : State,
    exec .cfgSetGid s = .next { s with
      g := { s.g with idCode := s.a0.setWidth 16 }, status := 0, r0 := 0, r1 := 0 } ∧
    exec .cfgSetTimeBase s = .next { s with g := { s.g with timeBase := s.a0 }, status := 0, r0 := 0, r1 := 0 } ∧
    exec .cfgSetDataRate s = .next { s with
      g := { s.g with dataRate := s.a0.setWidth 16 }, status := 0, r0 := 0, r1 := 0 } ∧
    exec .cfgSetSoc s = .next { s with g := { s.g with epochSeconds := s.a0 }, status := 0, r0 := 0, r1 := 0 } ∧
    exec .cfgSetFrac s = .next { s with g := { s.g with fracOfSecond := s.a0 }, status := 0, r0 := 0, r1 := 0 }

/-- R202, R204, R206, R208, R210, R213: the getters of the global fields; 16-bit fields are zero-extended. -/
def Obligations.GlobalGettersReadTheirField : Prop :=
  (∀ r ∈ [((0x31 : Nat), Instr.cfgGetPmuCount), (0x33, .cfgGetGid), (0x35, .cfgGetTimeBase), (0x37, .cfgGetDataRate),
      (0x39, .cfgGetSoc), (0x3B, .cfgGetFrac)], Selects r.1 fun _ => r.2) ∧
  ∀ s : State,
    exec .cfgGetPmuCount s = .next { s with status := 0, r0 := s.g.numPmu.setWidth 32, r1 := 0 } ∧
    exec .cfgGetGid s = .next { s with status := 0, r0 := s.g.idCode.setWidth 32, r1 := 0 } ∧
    exec .cfgGetTimeBase s = .next { s with status := 0, r0 := s.g.timeBase, r1 := 0 } ∧
    exec .cfgGetDataRate s = .next { s with status := 0, r0 := s.g.dataRate.setWidth 32, r1 := 0 } ∧
    exec .cfgGetSoc s = .next { s with status := 0, r0 := s.g.epochSeconds, r1 := 0 } ∧
    exec .cfgGetFrac s = .next { s with status := 0, r0 := s.g.fracOfSecond, r1 := 0 }

/-- R214, R217, R222, R224: the setters of a slot's id, nominal frequency and change count, and the increment. -/
def Obligations.PmuScalarSettersWriteTheirField : Prop :=
  (∀ r ∈ [((0x40 : Nat), Instr.cfgSetPid), (0x44, .cfgSetFnom), (0x46, .cfgSetCcc),
      (0x48, .cfgIncCcc)], Selects r.1 fun w => r.2 (cmdPmux w)) ∧
  ∀ (s : State) (p : PmuIndex),
    (∀ x, 1 ≤ p.toNat → p.toNat ≤ s.g.numPmu.toNat → s.pmus[p.toNat - 1]? = some x →
      exec (.cfgSetPid p) s = .next { s with
        pmus := s.pmus.set (p.toNat - 1) { x with idCode := s.a0.setWidth 16 }, status := 0, r0 := 0, r1 := 0 } ∧
      exec (.cfgSetFnom p) s = .next { s with
        pmus := s.pmus.set (p.toNat - 1) { x with nominalFreq := if s.a0 = 60 then false else true }
        status := 0, r0 := 0, r1 := 0 } ∧
      exec (.cfgSetCcc p) s = .next { s with
        pmus := s.pmus.set (p.toNat - 1) { x with confChangeCount := s.a0.setWidth 16 }
        status := 0, r0 := 0, r1 := 0 } ∧
      exec (.cfgIncCcc p) s = .next { s with
        pmus := s.pmus.set (p.toNat - 1)
          { x with confChangeCount := BitVec.ofNat 16 ((x.confChangeCount.toNat + 1) % 65536) }
        status := 0, r0 := BitVec.ofNat 32 ((x.confChangeCount.toNat + 1) % 65536), r1 := 0 }) ∧
    ((p.toNat = 0 ∨ s.g.numPmu.toNat < p.toNat) →
      ∀ i ∈ [Instr.cfgSetPid p, .cfgSetFnom p, .cfgSetCcc p, .cfgIncCcc p],
        exec i s = .next { s with status := 4, r0 := 0, r1 := 0 })

/-- R215, R218, R223, R226, R228, R230, R232, R243, R244, R245: the getters of a slot's scalar fields. -/
def Obligations.PmuScalarGettersReadTheirField : Prop :=
  (∀ r ∈ [((0x41 : Nat), Instr.cfgGetPid), (0x45, .cfgGetFnom), (0x47, .cfgGetCcc), (0x59, .cfgGetFmtCoord),
      (0x5B, .cfgGetFmtPhw), (0x5D, .cfgGetFmtAnw), (0x5F, .cfgGetFmtFqw), (0x51, .cfgGetNph), (0x53, .cfgGetNan),
      (0x55, .cfgGetNst)], Selects r.1 fun w => r.2 (cmdPmux w)) ∧
  ∀ (s : State) (p : PmuIndex),
    (∀ x, 1 ≤ p.toNat → p.toNat ≤ s.g.numPmu.toNat → s.pmus[p.toNat - 1]? = some x →
      ∀ iv ∈ [(Instr.cfgGetPid p, x.idCode.setWidth 32), (.cfgGetFnom p, if x.nominalFreq then 50 else 60),
          (.cfgGetCcc p, x.confChangeCount.setWidth 32), (.cfgGetFmtCoord p, if x.fmtCoord then 1 else 0),
          (.cfgGetFmtPhw p, if x.fmtPhw then 1 else 0), (.cfgGetFmtAnw p, if x.fmtAnw then 1 else 0),
          (.cfgGetFmtFqw p, if x.fmtFqw then 1 else 0), (.cfgGetNph p, x.numPhasors.setWidth 32),
          (.cfgGetNan p, x.numAnalogs.setWidth 32), (.cfgGetNst p, x.numStatusWords.setWidth 32)],
        exec iv.1 s = .next { s with status := 0, r0 := iv.2, r1 := 0 }) ∧
    ((p.toNat = 0 ∨ s.g.numPmu.toNat < p.toNat) →
      ∀ i ∈ [Instr.cfgGetPid p, .cfgGetFnom p, .cfgGetCcc p, .cfgGetFmtCoord p, .cfgGetFmtPhw p, .cfgGetFmtAnw p,
          .cfgGetFmtFqw p, .cfgGetNph p, .cfgGetNan p, .cfgGetNst p],
        exec i s = .next { s with status := 4, r0 := 0, r1 := 0 })

/-- R211: CFG.SET_STN copies at most 16 bytes of `ARGB` and fills the rest with spaces. -/
def Obligations.SetStationNameCopiesAndPads : Prop :=
  Selects 0x42 (fun w => .cfgSetStn (cmdPmux w)) ∧
  ∀ (s : State) (p : PmuIndex),
    (∀ x, 1 ≤ p.toNat → p.toNat ≤ s.g.numPmu.toNat → s.pmus[p.toNat - 1]? = some x →
      (s.a0.toNat ≤ s.params.argBytes → ∃ name : Name16,
        exec (.cfgSetStn p) s = .next { s with
          pmus := s.pmus.set (p.toNat - 1) { x with stationName := name }, status := 0, r0 := 0, r1 := 0 } ∧
        name.toList = s.readBytes .argb 0 (min s.a0.toNat 16) ++ List.replicate (16 - s.a0.toNat) 0x20) ∧
      (s.params.argBytes < s.a0.toNat → exec (.cfgSetStn p) s = .next { s with status := 5, r0 := 0, r1 := 0 })) ∧
    ((p.toNat = 0 ∨ s.g.numPmu.toNat < p.toNat) →
      exec (.cfgSetStn p) s = .next { s with status := 4, r0 := 0, r1 := 0 })

/-- R216: CFG.GET_STN stores the sixteen bytes at `ARGB[0..16)` and no other byte. -/
def Obligations.GetStationNameWritesSixteenBytes : Prop :=
  Selects 0x43 (fun w => .cfgGetStn (cmdPmux w)) ∧
  ∀ (s : State) (p : PmuIndex),
    (∀ x, 1 ≤ p.toNat → p.toNat ≤ s.g.numPmu.toNat → s.pmus[p.toNat - 1]? = some x →
      ∃ m : Memory, ∃ t : State, t = { s with argb := m, status := 0, r0 := 16, r1 := 0 } ∧
        exec (.cfgGetStn p) s = .next t ∧ t.readBytes .argb 0 16 = x.stationName.toList ∧
        ∀ b a, ¬ (b = .argb ∧ a < 16) → t.readByte b a = s.readByte b a) ∧
    ((p.toNat = 0 ∨ s.g.numPmu.toNat < p.toNat) →
      exec (.cfgGetStn p) s = .next { s with status := 4, r0 := 0, r1 := 0 })

/-- R225, R227, R229, R231: each data-format flag is set alone, to (operand ≠ 0). -/
def Obligations.FormatFlagSettersLeaveTheOthers : Prop :=
  (∀ r ∈ [((0x58 : Nat), Instr.cfgSetFmtCoord), (0x5A, .cfgSetFmtPhw), (0x5C, .cfgSetFmtAnw),
      (0x5E, .cfgSetFmtFqw)], Selects r.1 fun w => r.2 (cmdPmux w)) ∧
  ∀ (s : State) (p : PmuIndex),
    (∀ x, 1 ≤ p.toNat → p.toNat ≤ s.g.numPmu.toNat → s.pmus[p.toNat - 1]? = some x →
      let flag := if s.a0 = 0 then false else true
      ∀ iv ∈ [(Instr.cfgSetFmtCoord p, { x with fmtCoord := flag }), (.cfgSetFmtPhw p, { x with fmtPhw := flag }),
          (.cfgSetFmtAnw p, { x with fmtAnw := flag }), (.cfgSetFmtFqw p, { x with fmtFqw := flag })],
        exec iv.1 s = .next { s with pmus := s.pmus.set (p.toNat - 1) iv.2, status := 0, r0 := 0, r1 := 0 }) ∧
    ((p.toNat = 0 ∨ s.g.numPmu.toNat < p.toNat) →
      ∀ i ∈ [Instr.cfgSetFmtCoord p, .cfgSetFmtPhw p, .cfgSetFmtAnw p, .cfgSetFmtFqw p],
        exec i s = .next { s with status := 4, r0 := 0, r1 := 0 })

/-! ### Configuration counts, names and entries -/

/-- R239 to R242: a count past its capacity fails, the same count changes nothing, another count gives that many zero
entries. -/
def Obligations.ResizeClearsTheEntries : Prop :=
  (∀ r ∈ [((0x50 : Nat), Instr.cfgSetNph), (0x52, .cfgSetNan),
      (0x54, .cfgSetNst)], Selects r.1 fun w => r.2 (cmdPmux w)) ∧
  ∀ (s : State) (p : PmuIndex),
    (∀ x, 1 ≤ p.toNat → p.toNat ≤ s.g.numPmu.toNat → s.pmus[p.toNat - 1]? = some x →
      ∀ r ∈ [(Instr.cfgSetNph p, s.params.maxPhasors, x.numPhasors,
            { x with numPhasors := s.a0.setWidth 16, convFactorPhasor := List.replicate s.a0.toNat 0 }),
          (.cfgSetNan p, s.params.maxAnalogs, x.numAnalogs,
            { x with numAnalogs := s.a0.setWidth 16, convFactorAnalog := List.replicate s.a0.toNat 0 }),
          (.cfgSetNst p, s.params.maxStatus, x.numStatusWords,
            { x with numStatusWords := s.a0.setWidth 16, statusWordMasks := List.replicate s.a0.toNat 0 })],
        (r.2.1 < s.a0.toNat → exec r.1 s = .next { s with status := 3, r0 := 0, r1 := 0 }) ∧
        (s.a0.toNat ≤ r.2.1 → s.a0.toNat = r.2.2.1.toNat →
          exec r.1 s = .next { s with status := 0, r0 := 0, r1 := 0 }) ∧
        (s.a0.toNat ≤ r.2.1 → s.a0.toNat ≠ r.2.2.1.toNat →
          exec r.1 s = .next { s with
            pmus := s.pmus.set (p.toNat - 1) r.2.2.2, status := 0, r0 := 0, r1 := 0 })) ∧
    ((p.toNat = 0 ∨ s.g.numPmu.toNat < p.toNat) →
      ∀ i ∈ [Instr.cfgSetNph p, .cfgSetNan p, .cfgSetNst p],
        exec i s = .next { s with status := 4, r0 := 0, r1 := 0 })

/-- R246: CFG.SET_NAMES stores the handle when the PMU has a phasor; handle 0 unbinds. -/
def Obligations.SetNamesStoresTheHandle : Prop :=
  Selects 0x56 (fun w => .cfgSetNames (cmdPmux w)) ∧
  ∀ (s : State) (p : PmuIndex),
    (∀ x, 1 ≤ p.toNat → p.toNat ≤ s.g.numPmu.toNat → s.pmus[p.toNat - 1]? = some x →
      (x.numPhasors = 0 → exec (.cfgSetNames p) s = .next { s with status := 11, r0 := 0, r1 := 0 }) ∧
      (x.numPhasors ≠ 0 → exec (.cfgSetNames p) s = .next { s with
        pmus := s.pmus.set (p.toNat - 1)
          { x with namesHandle := s.a0, namesBound := if s.a0 = 0 then false else true }
        status := 0, r0 := 0, r1 := 0 })) ∧
    ((p.toNat = 0 ∨ s.g.numPmu.toNat < p.toNat) →
      exec (.cfgSetNames p) s = .next { s with status := 4, r0 := 0, r1 := 0 })

/-- R247, R248, R251, R252, R255, R256, with R259's `SCOPE` = 0: one entry's half is written, its other half kept. -/
def Obligations.EntrySettersWriteOneHalfOfOneEntry : Prop :=
  (∀ r ∈ [((0x60 : Nat), Instr.cfgSetPhf), (0x61, .cfgSetPht), (0x64, .cfgSetAnf), (0x65, .cfgSetAnt),
      (0x68, .cfgSetMskn), (0x69, .cfgSetMskv)], Selects r.1 fun w => r.2 (cmdPmux w) (cmdScope w)) ∧
  ∀ (s : State) (p : PmuIndex),
    let k := s.a0.toNat
    let factor := fun w : Word => (w &&& 0xFF000000) ||| (s.a1 &&& 0x00FFFFFF)
    let tag := fun w : Word => (s.a1 <<< 24) ||| (w &&& 0x00FFFFFF)
    let normal := fun w : Word => (s.a1 <<< 16) ||| (w &&& 0x0000FFFF)
    let validity := fun w : Word => (w &&& 0xFFFF0000) ||| (s.a1 &&& 0x0000FFFF)
    (∀ x, 1 ≤ p.toNat → p.toNat ≤ s.g.numPmu.toNat → s.pmus[p.toNat - 1]? = some x →
      (1 ≤ k → k ≤ x.numPhasors.toNat → ∀ w, x.convFactorPhasor[k - 1]? = some w →
        exec (.cfgSetPhf p .one) s = .next { s with
          pmus := s.pmus.set (p.toNat - 1) { x with convFactorPhasor := x.convFactorPhasor.set (k - 1) (factor w) }
          status := 0, r0 := 0, r1 := 0 } ∧
        exec (.cfgSetPht p .one) s = .next { s with
          pmus := s.pmus.set (p.toNat - 1) { x with convFactorPhasor := x.convFactorPhasor.set (k - 1) (tag w) }
          status := 0, r0 := 0, r1 := 0 }) ∧
      (1 ≤ k → k ≤ x.numAnalogs.toNat → ∀ w, x.convFactorAnalog[k - 1]? = some w →
        exec (.cfgSetAnf p .one) s = .next { s with
          pmus := s.pmus.set (p.toNat - 1) { x with convFactorAnalog := x.convFactorAnalog.set (k - 1) (factor w) }
          status := 0, r0 := 0, r1 := 0 } ∧
        exec (.cfgSetAnt p .one) s = .next { s with
          pmus := s.pmus.set (p.toNat - 1) { x with convFactorAnalog := x.convFactorAnalog.set (k - 1) (tag w) }
          status := 0, r0 := 0, r1 := 0 }) ∧
      (1 ≤ k → k ≤ x.numStatusWords.toNat → ∀ w, x.statusWordMasks[k - 1]? = some w →
        exec (.cfgSetMskn p .one) s = .next { s with
          pmus := s.pmus.set (p.toNat - 1) { x with statusWordMasks := x.statusWordMasks.set (k - 1) (normal w) }
          status := 0, r0 := 0, r1 := 0 } ∧
        exec (.cfgSetMskv p .one) s = .next { s with
          pmus := s.pmus.set (p.toNat - 1) { x with statusWordMasks := x.statusWordMasks.set (k - 1) (validity w) }
          status := 0, r0 := 0, r1 := 0 }) ∧
      ∀ ic ∈ [(Instr.cfgSetPhf p .one, x.numPhasors), (.cfgSetPht p .one, x.numPhasors),
          (.cfgSetAnf p .one, x.numAnalogs), (.cfgSetAnt p .one, x.numAnalogs),
          (.cfgSetMskn p .one, x.numStatusWords), (.cfgSetMskv p .one, x.numStatusWords)],
        (k = 0 ∨ ic.2.toNat < k) → exec ic.1 s = .next { s with status := 4, r0 := 0, r1 := 0 }) ∧
    ((p.toNat = 0 ∨ s.g.numPmu.toNat < p.toNat) →
      ∀ i ∈ [Instr.cfgSetPhf p .one, .cfgSetPht p .one, .cfgSetAnf p .one, .cfgSetAnt p .one, .cfgSetMskn p .one,
          .cfgSetMskv p .one],
        exec i s = .next { s with status := 4, r0 := 0, r1 := 0 })

/-- R259: the bulk scopes update every entry of one PMU, or of every PMU, with one value; `SCOPE` = 3 fails. -/
def Obligations.BulkScopesUpdateEveryEntry : Prop :=
  ∀ (s : State) (p : PmuIndex),
    let factor := fun w : Word => (w &&& 0xFF000000) ||| (s.a1 &&& 0x00FFFFFF)
    let tag := fun w : Word => (s.a1 <<< 24) ||| (w &&& 0x00FFFFFF)
    let normal := fun w : Word => (s.a1 <<< 16) ||| (w &&& 0x0000FFFF)
    let validity := fun w : Word => (w &&& 0xFFFF0000) ||| (s.a1 &&& 0x0000FFFF)
    let setters : List ((Scope → Instr) × (PmuSlot → PmuSlot)) :=
      [(.cfgSetPhf p, fun x => { x with convFactorPhasor := x.convFactorPhasor.map factor }),
       (.cfgSetPht p, fun x => { x with convFactorPhasor := x.convFactorPhasor.map tag }),
       (.cfgSetAnf p, fun x => { x with convFactorAnalog := x.convFactorAnalog.map factor }),
       (.cfgSetAnt p, fun x => { x with convFactorAnalog := x.convFactorAnalog.map tag }),
       (.cfgSetMskn p, fun x => { x with statusWordMasks := x.statusWordMasks.map normal }),
       (.cfgSetMskv p, fun x => { x with statusWordMasks := x.statusWordMasks.map validity })]
    ∀ u ∈ setters,
      (∀ x, 1 ≤ p.toNat → p.toNat ≤ s.g.numPmu.toNat → s.pmus[p.toNat - 1]? = some x →
        exec (u.1 .all) s = .next { s with pmus := s.pmus.set (p.toNat - 1) (u.2 x), status := 0, r0 := 0, r1 := 0 }) ∧
      ((p.toNat = 0 ∨ s.g.numPmu.toNat < p.toNat) →
        exec (u.1 .all) s = .next { s with status := 4, r0 := 0, r1 := 0 }) ∧
      exec (u.1 .allPmu) s = .next { s with pmus := s.pmus.map u.2, status := 0, r0 := 0, r1 := 0 } ∧
      exec (u.1 .reserved) s = .next { s with status := 10, r0 := 0, r1 := 0 }

/-- R249, R250, R253, R254, R257, R258: the entry getters; a tag that is not allowed reads INVALID, 0xFF, with `OK`. -/
def Obligations.EntryGettersReadOneHalfOfOneEntry : Prop :=
  (∀ r ∈ [((0x62 : Nat), Instr.cfgGetPhf), (0x63, .cfgGetPht), (0x66, .cfgGetAnf), (0x67, .cfgGetAnt),
      (0x6A, .cfgGetMskn), (0x6B, .cfgGetMskv)], Selects r.1 fun w => r.2 (cmdPmux w)) ∧
  ∀ (s : State) (p : PmuIndex),
    let k := s.a0.toNat
    (∀ x, 1 ≤ p.toNat → p.toNat ≤ s.g.numPmu.toNat → s.pmus[p.toNat - 1]? = some x →
      (1 ≤ k → k ≤ x.numPhasors.toNat → ∀ w, x.convFactorPhasor[k - 1]? = some w →
        exec (.cfgGetPhf p) s = .next { s with status := 0, r0 := BitVec.ofNat 32 (w.toNat % 2 ^ 24), r1 := 0 } ∧
        exec (.cfgGetPht p) s = .next { s with
          status := 0
          r0 := if BitVec.ofNat 8 (w.toNat / 2 ^ 24) ∈ s.params.phTypes then BitVec.ofNat 32 (w.toNat / 2 ^ 24) else 0xFF
          r1 := 0 }) ∧
      (1 ≤ k → k ≤ x.numAnalogs.toNat → ∀ w, x.convFactorAnalog[k - 1]? = some w →
        exec (.cfgGetAnf p) s = .next { s with status := 0, r0 := BitVec.ofNat 32 (w.toNat % 2 ^ 24), r1 := 0 } ∧
        exec (.cfgGetAnt p) s = .next { s with
          status := 0
          r0 := if BitVec.ofNat 8 (w.toNat / 2 ^ 24) ∈ s.params.anTypes then BitVec.ofNat 32 (w.toNat / 2 ^ 24) else 0xFF
          r1 := 0 }) ∧
      (1 ≤ k → k ≤ x.numStatusWords.toNat → ∀ w, x.statusWordMasks[k - 1]? = some w →
        exec (.cfgGetMskn p) s = .next { s with status := 0, r0 := BitVec.ofNat 32 (w.toNat / 2 ^ 16), r1 := 0 } ∧
        exec (.cfgGetMskv p) s = .next { s with status := 0, r0 := BitVec.ofNat 32 (w.toNat % 2 ^ 16), r1 := 0 }) ∧
      ∀ ic ∈ [(Instr.cfgGetPhf p, x.numPhasors), (.cfgGetPht p, x.numPhasors), (.cfgGetAnf p, x.numAnalogs),
          (.cfgGetAnt p, x.numAnalogs), (.cfgGetMskn p, x.numStatusWords), (.cfgGetMskv p, x.numStatusWords)],
        (k = 0 ∨ ic.2.toNat < k) → exec ic.1 s = .next { s with status := 4, r0 := 0, r1 := 0 }) ∧
    ((p.toNat = 0 ∨ s.g.numPmu.toNat < p.toNat) →
      ∀ i ∈ [Instr.cfgGetPhf p, .cfgGetPht p, .cfgGetAnf p, .cfgGetAnt p, .cfgGetMskn p, .cfgGetMskv p],
        exec i s = .next { s with status := 4, r0 := 0, r1 := 0 })

/-! ### CONFIG and HEADER frames -/

/-- R260: CFG.ENCODE. The frame's bytes in the rule's order, `TX_LEN` = `R0` = `L`, the bytes of `TXB` at and past `L`
unchanged, every other buffer unchanged, and the failures in their order. -/
def Obligations.CfgEncodeEmitsTheConfigFrame : Prop :=
  Selects 0x70 (fun _ => .cfgEncode) ∧
  ∀ s : State, s.Inv →
    let c := fun x : PmuSlot =>
      x.numPhasors.toNat + x.numAnalogs.toNat + s.params.namesPerStatusWord * x.numStatusWords.toNat
    let n := fun x : PmuSlot => if x.namesBound then 16 * c x else 0
    let size := 24 + (s.pmus.map fun x =>
      30 + n x + 4 * (x.numPhasors.toNat + x.numAnalogs.toNat + x.numStatusWords.toNat)).sum
    let short := ∃ x ∈ s.pmus, x.namesBound = true ∧ s.nameCount x.namesHandle < c x
    let format := fun x : PmuSlot => (if x.fmtFqw then (1 : Half) <<< s.params.fmtFqwBit else 0) |||
      (if x.fmtAnw then (1 : Half) <<< s.params.fmtAnwBit else 0) |||
      (if x.fmtPhw then (1 : Half) <<< s.params.fmtPhwBit else 0) |||
      (if x.fmtCoord then (1 : Half) <<< s.params.fmtCoordBit else 0)
    let block := fun x : PmuSlot =>
      x.stationName.toList ++ bytesBe16 x.idCode ++ bytesBe16 (format x) ++ bytesBe16 x.numPhasors ++
      bytesBe16 x.numAnalogs ++ bytesBe16 x.numStatusWords ++
      (if x.namesBound then ((s.namesAt x.namesHandle).take (c x)).flatMap (fun nm => nm.toList) else []) ++
      x.convFactorPhasor.flatMap bytesBe32 ++ x.convFactorAnalog.flatMap bytesBe32 ++
      x.statusWordMasks.flatMap bytesBe32 ++ [0, if x.nominalFreq then 1 else 0] ++ bytesBe16 x.confChangeCount
    let body := (if s.a0 = 1 then [0xAA, 0x21] else [0xAA, 0x31]) ++ bytesBe16 (BitVec.ofNat 16 size) ++
      bytesBe16 s.g.idCode ++ bytesBe32 s.g.epochSeconds ++ bytesBe32 s.g.fracOfSecond ++ bytesBe32 s.g.timeBase ++
      bytesBe16 s.g.numPmu ++ s.pmus.flatMap block ++ bytesBe16 s.g.dataRate
    (s.a0 = 3 → exec .cfgEncode s = .next { s with status := 12, r0 := 0, r1 := 0 }) ∧
    (s.a0 ≠ 1 → s.a0 ≠ 2 → s.a0 ≠ 3 → exec .cfgEncode s = .next { s with status := 10, r0 := 0, r1 := 0 }) ∧
    (s.a0 = 1 ∨ s.a0 = 2 →
      (65535 < size → exec .cfgEncode s = .next { s with status := 9, r0 := 0, r1 := 0 }) ∧
      (size ≤ 65535 → short → exec .cfgEncode s = .next { s with status := 14, r0 := 0, r1 := 0 }) ∧
      (size ≤ 65535 → ¬ short → ∃ m : Memory, ∃ t : State,
        t = { s with
          txb := m, txLen := BitVec.ofNat 16 size, cur := none, status := 0, r0 := BitVec.ofNat 32 size, r1 := 0 } ∧
        exec .cfgEncode s = .next t ∧
        t.readBytes .txb 0 size = body ++ bytesBe16 (crc16 s.params.crcShift3 body) ∧
        ∀ b a, ¬ (b = .txb ∧ a < size) → t.readByte b a = s.readByte b a))

/-- R261: after a successful CFG.ENCODE the frame states its own length and carries its own CRC, so CRC.CHECK on it succeeds
and HDR.TYPE returns the kind asked for. -/
def Obligations.ConfigFrameStatesItsSizeAndPassesItsCheck : Prop :=
  ∀ s t : State, s.Inv → exec .cfgEncode s = .next t → t.status = 0 →
    t.read16 .txb 2 = t.txLen ∧
    t.read16 .txb (t.txLen.toNat - 2) = crc16 t.params.crcShift3 (t.readBytes .txb 0 (t.txLen.toNat - 2)) ∧
    (∃ r, exec (.crcCheck false .txb) { t with a0 := 0, a1 := t.txLen.setWidth 32 } =
      .next { t with a0 := 0, a1 := t.txLen.setWidth 32, status := 0, r0 := 1, r1 := r }) ∧
    ∃ k, exec (.hdrType .txb) { t with a0 := 0, a1 := t.txLen.setWidth 32 } =
      .next { t with a0 := 0, a1 := t.txLen.setWidth 32, status := 0, r0 := if s.a0 = 1 then 3 else 4, r1 := k }

/-- R280: HDRF.BUILD. The frame's bytes, `TX_LEN` = `R0` = 16 + T, every other byte unchanged, and the failures in their
order. -/
def Obligations.HdrfBuildEmitsTheHeaderFrame : Prop :=
  Selects 0x71 (fun w => .hdrfBuild (cmdFlag 0 w)) ∧
  ∀ s : State,
    let n := s.a0.toNat
    let body := [0xAA, 0x11] ++ bytesBe16 (BitVec.ofNat 16 (16 + n)) ++ bytesBe16 s.g.idCode ++
      bytesBe32 s.g.epochSeconds ++ bytesBe32 s.g.fracOfSecond ++ s.readBytes .argb 0 n
    exec (.hdrfBuild false) s = .next { s with status := 8, r0 := 0, r1 := 0 } ∧
    (s.params.argBytes < n → exec (.hdrfBuild true) s = .next { s with status := 5, r0 := 0, r1 := 0 }) ∧
    (n ≤ s.params.argBytes → 65519 < n → exec (.hdrfBuild true) s = .next { s with status := 9, r0 := 0, r1 := 0 }) ∧
    (n ≤ s.params.argBytes → n ≤ 65519 → ∃ m : Memory, ∃ t : State,
      t = { s with txb := m, txLen := BitVec.ofNat 16 (16 + n), cur := none, status := 0
                   r0 := BitVec.ofNat 32 (16 + n), r1 := 0 } ∧
      exec (.hdrfBuild true) s = .next t ∧
      t.readBytes .txb 0 (16 + n) = body ++ bytesBe16 (crc16 s.params.crcShift3 body) ∧
      ∀ b a, ¬ (b = .txb ∧ a < 16 + n) → t.readByte b a = s.readByte b a)

/-- R101, R104, R25: what each of the three encoders leaves in `TXB` states its own length, `TX_LEN`, and ends in the CRC of
the bytes before it. -/
def Obligations.EveryEncodedFrameStatesItsSizeAndCrc : Prop :=
  ∀ (s t : State) (i : Instr), s.Inv → isEncoder i = true → exec i s = .next t → t.status = 0 →
    16 ≤ t.txLen.toNat ∧ t.r0 = t.txLen.setWidth 32 ∧ t.readByte .txb 0 = 0xAA ∧
    t.read16 .txb 2 = t.txLen ∧
    t.read16 .txb (t.txLen.toNat - 2) = crc16 t.params.crcShift3 (t.readBytes .txb 0 (t.txLen.toNat - 2))

/-! ### Command classification -/

/-- R290: CMD.CLASSIFY in word mode and in frame mode; every word has a kind, INVALID (code 0) included. -/
def Obligations.CmdClassifyGivesTheKind : Prop :=
  Selects 0x80 (fun w => .cmdClassify (cmdFlag 0 w) (cmdSource w)) ∧
  ∀ (s : State) (src : Source),
    let kind := fun w : Half =>
      if w = 1 then (1 : Word) else if w = 2 then 2 else if w = 3 then 3 else if w = 4 then 4 else if w = 5 then 5
      else if w = 6 then 6 else if w = 8 then 7 else if w &&& 0x0F00 = 0x0F00 then 8 else 0
    let word := BitVec.ofNat 16 s.a0.toNat
    let framed := s.read16 (if src = .rxb then .rxb else .txb) (s.a0.toNat + s.a2.toNat)
    exec (.cmdClassify false src) s = .next { s with status := 0, r0 := kind word, r1 := word.setWidth 32 } ∧
    (s.params.bufBytes < s.a0.toNat + s.a1.toNat →
      exec (.cmdClassify true src) s = .next { s with status := 5, r0 := 0, r1 := 0 }) ∧
    (s.a0.toNat + s.a1.toNat ≤ s.params.bufBytes → s.a1.toNat < s.a2.toNat + 2 →
      exec (.cmdClassify true src) s = .next { s with status := 1, r0 := 0, r1 := 0 }) ∧
    (s.a0.toNat + s.a1.toNat ≤ s.params.bufBytes → s.a2.toNat + 2 ≤ s.a1.toNat →
      exec (.cmdClassify true src) s = .next { s with status := 0, r0 := kind framed, r1 := framed.setWidth 32 })

/-! ### Data codec -/

/-- R300: DATA.BIND, `BindAllocOK` a predicate of what it reads of `G` and `P` (log entry 2), copies every slot's flags and counts and discards the sample; a failed bind leaves the codec unbound. The
sample registers it creates have no value: they hold free values, log entry 4. -/
def Obligations.DataBindTakesTheSnapshot : Prop :=
  Selects 0x90 (fun _ => .dataBind) ∧
  ∀ s : State, s.pmus.length = s.g.numPmu.toNat →
    let request : BindRequest := { numPmu := s.g.numPmu, slots := s.pmus.map fun x =>
      ⟨x.fmtCoord, x.fmtPhw, x.fmtAnw, x.fmtFqw, x.numPhasors, x.numAnalogs, x.numStatusWords⟩ }
    (s.params.bindAllocOk request = false → exec .dataBind s = .next { s with
      d := { bound := false, boundN := 0, sampleValid := false, statValid := false }
      samples := [], status := 3, r0 := 0, r1 := 0 }) ∧
    (s.params.bindAllocOk request = true → ∃ ss : List SampleSlot,
      exec .dataBind s = .next { s with
        d := { bound := true, boundN := s.g.numPmu, sampleValid := false, statValid := false }
        samples := ss, binds := s.binds + 1, status := 0, r0 := s.g.numPmu.setWidth 32, r1 := 0 } ∧
      ss.map (fun y => (y.snapCoord, y.snapPhw, y.snapAnw, y.snapFqw, y.snapNph, y.snapNan, y.snapNst)) =
        s.pmus.map (fun x =>
          (x.fmtCoord, x.fmtPhw, x.fmtAnw, x.fmtFqw, x.numPhasors, x.numAnalogs, x.numStatusWords)) ∧
      ∀ y ∈ ss, y.ph.length = y.snapNph.toNat ∧ y.an.length = y.snapNan.toNat ∧ y.dig.length = y.snapNst.toNat)

/-- R305 with R302: DATA.DECODE. The failures in their order; else every value of every PMU is read at its place in R118's
layout, `R0` is the number of bytes consumed, and the validity flags are set; without the common header STAT is kept. -/
def Obligations.DataDecodeReadsEveryValueAtItsPlace : Prop :=
  Selects 0x91 (fun w => .dataDecode (cmdFlag 0 w) (cmdSource w)) ∧
  ∀ (s : State) (ich : Bool) (src : Source),
    let buf := if src = .rxb then Buffer.rxb else Buffer.txb
    let wid := fun b : Bool => if b then 4 else 2
    let db := fun x : SampleSlot => 2 + 2 * wid x.snapPhw * x.snapNph.toNat + wid x.snapAnw * x.snapNan.toNat +
      2 * wid x.snapFqw + 2 * x.snapNst.toNat
    let blk := fun x : SampleSlot => if ich then db x else db x - 2
    let need := (s.samples.map blk).sum + if ich then 14 else 0
    let val := fun (wide : Bool) (a : Nat) => if wide then Value.float32 (s.read32 buf a) else .int16 (s.read16 buf a)
    (s.d.bound = false → exec (.dataDecode ich src) s = .next { s with status := 6, r0 := 0, r1 := 0 }) ∧
    (s.d.bound = true → (s.params.bufBytes < s.a0.toNat + s.a1.toNat ∨ s.a1.toNat < need) →
      exec (.dataDecode ich src) s = .next { s with status := 5, r0 := 0, r1 := 0 }) ∧
    (s.d.bound = true → s.a0.toNat + s.a1.toNat ≤ s.params.bufBytes → need ≤ s.a1.toNat → ∃ ss : List SampleSlot,
      exec (.dataDecode ich src) s = .next { s with
        samples := ss, d := { s.d with sampleValid := true, statValid := if ich then true else s.d.statValid }
        cur := none, status := 0, r0 := BitVec.ofNat 32 need, r1 := 0 } ∧
      ss.length = s.samples.length ∧
      ∀ p x, s.samples[p]? = some x →
        let start := s.a0.toNat + (if ich then 12 else 0) + ((s.samples.take p).map blk).sum
        let oPh := start + if ich then 2 else 0
        let oAn := oPh + 2 * wid x.snapPhw * x.snapNph.toNat
        let oFq := oAn + wid x.snapAnw * x.snapNan.toNat
        let oDg := oFq + 2 * wid x.snapFqw
        ss[p]? = some { x with
          stat := if ich then s.read16 buf start else x.stat
          ph := (List.range x.snapNph.toNat).map fun k =>
            (val x.snapPhw (oPh + 2 * wid x.snapPhw * k), val x.snapPhw (oPh + 2 * wid x.snapPhw * k + wid x.snapPhw))
          an := (List.range x.snapNan.toNat).map fun k => val x.snapAnw (oAn + wid x.snapAnw * k)
          fdev := val x.snapFqw oFq
          rocof := val x.snapFqw (oFq + wid x.snapFqw)
          dig := (List.range x.snapNst.toNat).map fun k => s.read16 buf (oDg + 2 * k) })

/-- R307: DATA.ENCODE. The frame's bytes in the rule's order, `TX_LEN` = `R0` = FRAME, every other byte unchanged, and the
failures in their order. -/
def Obligations.DataEncodeEmitsTheDataFrame : Prop :=
  Selects 0x92 (fun _ => .dataEncode) ∧
  ∀ s : State, s.Inv →
    let wid := fun b : Bool => if b then 4 else 2
    let size := 16 + (s.samples.map fun x => 2 + 2 * wid x.snapPhw * x.snapNph.toNat +
      wid x.snapAnw * x.snapNan.toNat + 2 * wid x.snapFqw + 2 * x.snapNst.toNat).sum
    let emit := fun v : Value => match v with
      | .int16 h => bytesBe16 h
      | .float32 w => bytesBe32 w
    let block := fun x : SampleSlot => bytesBe16 x.stat ++ x.ph.flatMap (fun c => emit c.1 ++ emit c.2) ++
      x.an.flatMap emit ++ emit x.fdev ++ emit x.rocof ++ x.dig.flatMap bytesBe16
    let body := [0xAA, 0x01] ++ bytesBe16 (BitVec.ofNat 16 size) ++ bytesBe16 s.g.idCode ++
      bytesBe32 s.g.epochSeconds ++ bytesBe32 s.g.fracOfSecond ++ s.samples.flatMap block
    (s.d.bound = false → exec .dataEncode s = .next { s with status := 6, r0 := 0, r1 := 0 }) ∧
    (s.d.bound = true → (s.d.sampleValid = false ∨ s.d.statValid = false) →
      exec .dataEncode s = .next { s with status := 7, r0 := 0, r1 := 0 }) ∧
    (s.d.bound = true → s.d.sampleValid = true → s.d.statValid = true →
      (65535 < size → exec .dataEncode s = .next { s with status := 9, r0 := 0, r1 := 0 }) ∧
      (size ≤ 65535 → ∃ m : Memory, ∃ t : State,
        t = { s with
          txb := m, txLen := BitVec.ofNat 16 size, cur := none, status := 0, r0 := BitVec.ofNat 32 size, r1 := 0 } ∧
        exec .dataEncode s = .next t ∧
        t.readBytes .txb 0 size = body ++ bytesBe16 (crc16 s.params.crcShift3 body) ∧
        ∀ b a, ¬ (b = .txb ∧ a < size) → t.readByte b a = s.readByte b a))

/-- R316: a frame DATA.ENCODE made decodes to the very values it was made of, passes its CRC check, and is recognised as a
DATA frame of the length DATA.SIZE gives. -/
def Obligations.EncodedDataFrameDecodesToTheSameSample : Prop :=
  ∀ s t : State, s.Inv → exec .dataEncode s = .next t → t.status = 0 →
    let whole := { t with a0 := 0, a1 := t.txLen.setWidth 32 }
    let payload := { t with a0 := 2, a1 := BitVec.ofNat 32 (t.txLen.toNat - 2) }
    exec (.dataDecode true .txb) payload =
      .next { payload with status := 0, r0 := BitVec.ofNat 32 (t.txLen.toNat - 2), r1 := 0 } ∧
    (∃ r, exec (.crcCheck false .txb) whole = .next { whole with status := 0, r0 := 1, r1 := r }) ∧
    exec (.hdrType .txb) whole = .next { whole with status := 0, r0 := 1, r1 := 1 } ∧
    exec (.hdrSize .txb) whole = .next { whole with status := 0, r0 := t.txLen.setWidth 32, r1 := 0 } ∧
    exec (.dataSize 0) t = .next { t with status := 0, r0 := t.txLen.setWidth 32, r1 := 0 }

/-- R316, its converse: a frame that decodes is encoded again with the same bytes from its 15th on, up to its CRC; with the
frame's id and timestamp in `G`, with the same bytes from its 5th on. -/
def Obligations.DecodedDataFrameIsEncodedWithItsOwnBytes : Prop :=
  ∀ (s t u : State) (src : Source), s.Inv →
    exec (.dataDecode true src) s = .next t → t.status = 0 → exec .dataEncode t = .next u → u.status = 0 →
    let o := s.a0.toNat + 2
    let n := t.r0.toNat
    u.txLen.toNat = n + 2 ∧
    u.readBytes .txb 14 (n - 14) = s.readBytes (srcBuffer src) (o + 10) (n - 14) ∧
    (s.g.idCode = s.read16 (srcBuffer src) o → s.g.epochSeconds = s.read32 (srcBuffer src) (o + 2) →
      s.g.fracOfSecond = s.read32 (srcBuffer src) (o + 6) →
      u.readBytes .txb 4 (n - 4) = s.readBytes (srcBuffer src) o (n - 4))

/-- R308 with R302: DATA.SIZE gives the exact size of the frame, or of one PMU's block, as a 64-bit value. -/
def Obligations.DataSizeIsTheSizeFormula : Prop :=
  Selects 0x93 (fun w => .dataSize (cmdPmux w)) ∧
  ∀ (s : State) (p : PmuIndex),
    let wid := fun b : Bool => if b then 4 else 2
    let db := fun x : SampleSlot => 2 + 2 * wid x.snapPhw * x.snapNph.toNat + wid x.snapAnw * x.snapNan.toNat +
      2 * wid x.snapFqw + 2 * x.snapNst.toNat
    let size := 16 + (s.samples.map db).sum
    (s.d.bound = false → exec (.dataSize p) s = .next { s with status := 6, r0 := 0, r1 := 0 }) ∧
    (s.d.bound = true →
      exec (.dataSize 0) s =
        .next { s with status := 0, r0 := BitVec.ofNat 32 size, r1 := BitVec.ofNat 32 (size / 2 ^ 32) } ∧
      (s.d.boundN.toNat < p.toNat → exec (.dataSize p) s = .next { s with status := 4, r0 := 0, r1 := 0 }) ∧
      ∀ x, 1 ≤ p.toNat → p.toNat ≤ s.d.boundN.toNat → s.samples[p.toNat - 1]? = some x →
        exec (.dataSize p) s =
          .next { s with status := 0, r0 := BitVec.ofNat 32 (db x), r1 := BitVec.ofNat 32 (db x / 2 ^ 32) })

/-- R310 to R315: the accessors return the value zero-extended; an int16 value fills the low half of its register. -/
def Obligations.AccessorsReturnTheSampleValues : Prop :=
  (∀ r ∈ [((0x94 : Nat), Instr.dataGetPhasor), (0x95, .dataGetAnalog), (0x96, .dataGetFreq), (0x97, .dataGetRocof),
      (0x98, .dataGetStat), (0x99, .dataGetDig)], Selects r.1 fun w => r.2 (cmdPmux w)) ∧
  ∀ (s : State) (p : PmuIndex) (x : SampleSlot), s.d.bound = true → 1 ≤ p.toNat → p.toNat ≤ s.d.boundN.toNat →
    s.samples[p.toNat - 1]? = some x →
    let k := s.a0.toNat
    let reg := fun v : Value => match v with
      | .int16 h => BitVec.ofNat 32 h.toNat
      | .float32 w => w
    (s.d.sampleValid = true →
      (1 ≤ k → k ≤ x.snapNph.toNat → ∀ v, x.ph[k - 1]? = some v →
        exec (.dataGetPhasor p) s = .next { s with status := 0, r0 := reg v.1, r1 := reg v.2 }) ∧
      (1 ≤ k → k ≤ x.snapNan.toNat → ∀ v, x.an[k - 1]? = some v →
        exec (.dataGetAnalog p) s = .next { s with status := 0, r0 := reg v, r1 := 0 }) ∧
      (1 ≤ k → k ≤ x.snapNst.toNat → ∀ v, x.dig[k - 1]? = some v →
        exec (.dataGetDig p) s = .next { s with status := 0, r0 := BitVec.ofNat 32 v.toNat, r1 := 0 }) ∧
      exec (.dataGetFreq p) s = .next { s with status := 0, r0 := reg x.fdev, r1 := 0 } ∧
      exec (.dataGetRocof p) s = .next { s with status := 0, r0 := reg x.rocof, r1 := 0 }) ∧
    (s.d.statValid = true →
      exec (.dataGetStat p) s = .next { s with status := 0, r0 := BitVec.ofNat 32 x.stat.toNat, r1 := 0 })

/-- R309: the accessors' checks, in their order. -/
def Obligations.AccessorChecksComeInOrder : Prop :=
  ∀ (s : State) (p : PmuIndex),
    let indexed := [Instr.dataGetPhasor p, .dataGetAnalog p, .dataGetDig p]
    let single := [Instr.dataGetFreq p, .dataGetRocof p, .dataGetStat p]
    (s.d.bound = false → ∀ i ∈ indexed ++ single, exec i s = .next { s with status := 6, r0 := 0, r1 := 0 }) ∧
    (s.d.bound = true → (p.toNat = 0 ∨ s.d.boundN.toNat < p.toNat) →
      ∀ i ∈ indexed ++ single, exec i s = .next { s with status := 4, r0 := 0, r1 := 0 }) ∧
    (s.d.bound = true → ∀ x, 1 ≤ p.toNat → p.toNat ≤ s.d.boundN.toNat → s.samples[p.toNat - 1]? = some x →
      (∀ ic ∈ [(Instr.dataGetPhasor p, x.snapNph), (.dataGetAnalog p, x.snapNan), (.dataGetDig p, x.snapNst)],
        ((s.a0.toNat = 0 ∨ ic.2.toNat < s.a0.toNat) →
          exec ic.1 s = .next { s with status := 4, r0 := 0, r1 := 0 }) ∧
        (1 ≤ s.a0.toNat → s.a0.toNat ≤ ic.2.toNat → s.d.sampleValid = false →
          exec ic.1 s = .next { s with status := 7, r0 := 0, r1 := 0 })) ∧
      (s.d.sampleValid = false → ∀ i ∈ [Instr.dataGetFreq p, .dataGetRocof p],
        exec i s = .next { s with status := 7, r0 := 0, r1 := 0 }) ∧
      (s.d.statValid = false → exec (.dataGetStat p) s = .next { s with status := 7, r0 := 0, r1 := 0 }))

/-! ### Rules of the whole machine -/

/-- R80, R340: every instruction, in every state, ends in a next state whose `STATUS` is one of the codes 0 to 14. -/
def Obligations.EveryOperationEndsWithAStatusCode : Prop :=
  ∀ (i : Instr) (s : State), ∃ t, exec i s = .next t ∧ t.status.toNat ≤ 14

/-- R341: an operation that ends with a failure code has written `STATUS`, `R0` and `R1` and nothing else, except a failed
DATA.BIND. -/
def Obligations.AFailedOperationChangesNothingElse : Prop :=
  ∀ (i : Instr) (s t : State), exec i s = .next t → t.status ≠ 0 →
    t = { s with status := t.status, r0 := 0, r1 := 0 } ∨
    (i = .dataBind ∧ t = { s with
      d := { bound := false, boundN := 0, sampleValid := false, statValid := false }, samples := []
      status := 3, r0 := 0, r1 := 0 })

/-- R20, R21, R52, R60: no operation writes `CMD`, an operand register, `RXB`, `HB` or the name store, or changes the
machine's parameters or the host's accesses to come. -/
def Obligations.OperationsLeaveTheHostsStateAlone : Prop :=
  ∀ (i : Instr) (s t : State), exec i s = .next t →
    t.cmd = s.cmd ∧ t.a0 = s.a0 ∧ t.a1 = s.a1 ∧ t.a2 = s.a2 ∧ t.rxb = s.rxb ∧ t.hb = s.hb ∧ t.names = s.names ∧
    t.host = s.host ∧ t.params = s.params ∧ t.resets = s.resets ∧
    ∀ a, t.readByte .rxb a = s.readByte .rxb a ∧ t.readByte .hb a = s.readByte .hb a

/-- R25, R70: only the three encoders write `TXB` and `TX_LEN`, only CFG.GET_STN writes `ARGB`, and it writes its first 16
bytes; a failed operation writes no byte. -/
def Obligations.OnlyStoringOperationsWriteABuffer : Prop :=
  ∀ (i : Instr) (s t : State), exec i s = .next t →
    ((storesBytes i = false ∨ t.status ≠ 0) → ∀ b a, t.readByte b a = s.readByte b a) ∧
    ((isEncoder i = false ∨ t.status ≠ 0) → t.txLen = s.txLen ∧ ∀ a, t.readByte .txb a = s.readByte .txb a) ∧
    ((∀ p, i ≠ .cfgGetStn p) → ∀ a, t.readByte .argb a = s.readByte .argb a) ∧
    ∀ a, 16 ≤ a → t.readByte .argb a = s.readByte .argb a

/-- R200e, R300, R305: only DATA.BIND and DATA.DECODE write the data codec's registers; only the setters and HDR.STAMP write
the configuration. -/
def Obligations.CodecAndConfigurationAreWrittenApart : Prop :=
  ∀ (i : Instr) (s t : State), exec i s = .next t →
    (writesCodec i = false → t.d = s.d ∧ t.samples = s.samples) ∧
    (writesConfig i = false → t.g = s.g ∧ t.pmus = s.pmus)

/-- R83, R381: DATA.DECODE, DATA.SIZE and the accessors give the same outcome whatever the configuration has become since
the bind, and DATA.ENCODE whatever the slots have become. -/
def Obligations.SnapshotHidesLaterConfigurationChanges : Prop :=
  ∀ (s t : State) (g : Global) (ps : List PmuSlot) (p : PmuIndex) (ich : Bool) (src : Source),
    (∀ i ∈ [Instr.dataDecode ich src, .dataSize p, .dataGetPhasor p, .dataGetAnalog p, .dataGetFreq p, .dataGetRocof p,
        .dataGetStat p, .dataGetDig p],
      exec i s = .next t → exec i { s with g := g, pmus := ps } = .next { t with g := g, pmus := ps }) ∧
    (exec .dataEncode s = .next t → exec .dataEncode { s with pmus := ps } = .next { t with pmus := ps })

/-- R23, R22: no operation's outcome depends on the `STATUS`, `R0` and `R1` an earlier operation left, nor on `TX_LEN`. -/
def Obligations.EarlierResultsDoNotMatter : Prop :=
  ∀ (i : Instr) (s t : State) (st : Byte) (x y : Word), exec i s = .next t →
    exec i { s with status := st, r0 := x, r1 := y } = .next t ∧
    ∀ n : Half, ∃ n', exec i { s with txLen := n } = .next { t with txLen := n' } ∧
      (isEncoder i = true → t.status = 0 → n' = t.txLen)

/-- R73, R76: a field stored big-endian reads back as the field, and reads as its bytes one by one. -/
def Obligations.StoredFieldsReadBackBigEndian : Prop :=
  ∀ (s : State) (b : Buffer) (a : Nat) (h : Half) (w : Word),
    (s.writeBytes b a (bytesBe16 h)).read16 b a = h ∧
    (s.writeBytes b a (bytesBe32 w)).read32 b a = w ∧
    (s.read16 b a).toNat = (s.readByte b a).toNat * 256 + (s.readByte b (a + 1)).toNat ∧
    (s.read32 b a).toNat = (s.read16 b a).toNat * 65536 + (s.read16 b (a + 2)).toNat ∧
    ∀ c x, ¬ (c = b ∧ a ≤ x ∧ x < a + 4) → (s.writeBytes b a (bytesBe32 w)).readByte c x = s.readByte c x
end

