-- ==== Sys2Proof/Laws/HostPort.lean ====
section
/-! SUPPORT. Laws/HostPort.lean: one step by the host's access, and what an address of the host address space reaches. -/

namespace Sys2Proof.Machine

variable {s : State} {c : Params}

@[simp] theorem resolveAccess_writeCmd (w : Word) : resolveAccess c (.writeCmd w) = .writeCmd w := rfl
@[simp] theorem resolveAccess_writeOperand (r : OperandReg) (w : Word) :
    resolveAccess c (.writeOperand r w) = .writeOperand r w := rfl
@[simp] theorem resolveAccess_writeByte (b : Buffer) (a : Nat) (v : Byte) :
    resolveAccess c (.writeByte b a v) = .writeByte b a v := rfl
@[simp] theorem resolveAccess_setNames (h : Word) (ns : List Name16) :
    resolveAccess c (.setNames h ns) = .setNames h ns := rfl
@[simp] theorem resolveAccess_reset : resolveAccess c .reset = .reset := rfl

/-- With no access left a step changes nothing. -/
theorem step_idle (h : s.host = []) : step s = .next s := by unfold step; rw [h]

/-- A step takes the access that the host's next one resolves to. -/
theorem step_access {rest : List HostAccess} {access : HostAccess} (h : s.host = access :: rest) :
    step s = runAccess s rest (resolveAccess s.params access) := by unfold step; rw [h]

/-- A write of `CMD` whose word decodes runs the instruction. -/
theorem runAccess_ok {rest : List HostAccess} {w : Word} {i : Instr} (h : decodeCmd w = .ok i) :
    runAccess s rest (.writeCmd w) = exec i (s.latchCmd w rest) := by simp [runAccess, h]

/-- A write of `CMD` whose word does not decode performs nothing. -/
theorem runAccess_illegal {rest : List HostAccess} {w : Word} {e : DecodeError} (h : decodeCmd w = .error e) :
    runAccess s rest (.writeCmd w) = illegalOp (s.latchCmd w rest) := by simp [runAccess, h]

/-- All that an access can do: run an instruction, meet an illegal word, or write what it names. -/
theorem runAccess_next {rest : List HostAccess} {access : HostAccess} {t : State} (h : runAccess s rest access = .next t) :
    (∃ w i, access = .writeCmd w ∧ decodeCmd w = .ok i ∧ exec i (s.latchCmd w rest) = .next t) ∨
    (∃ w, access = .writeCmd w ∧ illegalOp (s.latchCmd w rest) = .next t) ∨
    hostAccess { s with host := rest } access = .next t := by
  cases access with
  | writeCmd w =>
    rcases hd : decodeCmd w with e | i
    · exact .inr (.inl ⟨w, rfl, by rwa [runAccess_illegal hd] at h⟩)
    · exact .inl ⟨w, i, rfl, hd, by rwa [runAccess_ok hd] at h⟩
  | _ => exact .inr (.inr h)

/-- All that a step can do. -/
theorem step_next {t : State} (h : step s = .next t) :
    (s.host = [] ∧ t = s) ∨ ∃ access rest, s.host = access :: rest ∧
      runAccess s rest (resolveAccess s.params access) = .next t := by
  rcases hh : s.host with _ | ⟨access, rest⟩
  · rw [step_idle hh] at h; exact .inl ⟨rfl, by simpa using h.symm⟩
  · rw [step_access hh] at h; exact .inr ⟨access, rest, rfl, h⟩

theorem mem_hostPlaces (p : HostPlace) : p ∈ hostPlaces := by cases p <;> decide

/-- The one place that holds an address is what sits there. -/
theorem placeAt_eq_some {p : HostPlace} {addr : Nat} (hp : placeHolds c p addr = true)
    (h : ∀ q, placeHolds c q addr = true → q = p) : placeAt c addr = some p := by
  unfold placeAt
  rcases hf : hostPlaces.find? (placeHolds c · addr) with _ | q
  · exact absurd hp (List.find?_eq_none.1 hf p (mem_hostPlaces p))
  · rw [h q (by simpa using List.find?_some hf)]

/-- Nothing sits at an address that no place holds. -/
theorem placeAt_eq_none {addr : Nat} (h : ∀ q, placeHolds c q addr = false) : placeAt c addr = none := by
  simp [placeAt, h]

end Sys2Proof.Machine
end

