-- ==== Sys2Proof/Laws/State.lean ====
section
/-! SUPPORT. Laws/State.lean: each field after each named update of the state. -/

namespace Sys2Proof.Machine

variable (s : State)

/-! ### `ended` -/

@[simp] theorem State.ended_cmd (st : Byte) (x y : Word) : (s.ended st x y).cmd = s.cmd := rfl
@[simp] theorem State.ended_a0 (st : Byte) (x y : Word) : (s.ended st x y).a0 = s.a0 := rfl
@[simp] theorem State.ended_a1 (st : Byte) (x y : Word) : (s.ended st x y).a1 = s.a1 := rfl
@[simp] theorem State.ended_a2 (st : Byte) (x y : Word) : (s.ended st x y).a2 = s.a2 := rfl
@[simp] theorem State.ended_r0 (st : Byte) (x y : Word) : (s.ended st x y).r0 = x := rfl
@[simp] theorem State.ended_r1 (st : Byte) (x y : Word) : (s.ended st x y).r1 = y := rfl
@[simp] theorem State.ended_status (st : Byte) (x y : Word) : (s.ended st x y).status = st := rfl
@[simp] theorem State.ended_cur (st : Byte) (x y : Word) : (s.ended st x y).cur = s.cur := rfl
@[simp] theorem State.ended_txLen (st : Byte) (x y : Word) : (s.ended st x y).txLen = s.txLen := rfl
@[simp] theorem State.ended_g (st : Byte) (x y : Word) : (s.ended st x y).g = s.g := rfl
@[simp] theorem State.ended_pmus (st : Byte) (x y : Word) : (s.ended st x y).pmus = s.pmus := rfl
@[simp] theorem State.ended_d (st : Byte) (x y : Word) : (s.ended st x y).d = s.d := rfl
@[simp] theorem State.ended_samples (st : Byte) (x y : Word) : (s.ended st x y).samples = s.samples := rfl
@[simp] theorem State.ended_rxb (st : Byte) (x y : Word) : (s.ended st x y).rxb = s.rxb := rfl
@[simp] theorem State.ended_txb (st : Byte) (x y : Word) : (s.ended st x y).txb = s.txb := rfl
@[simp] theorem State.ended_argb (st : Byte) (x y : Word) : (s.ended st x y).argb = s.argb := rfl
@[simp] theorem State.ended_hb (st : Byte) (x y : Word) : (s.ended st x y).hb = s.hb := rfl
@[simp] theorem State.ended_names (st : Byte) (x y : Word) : (s.ended st x y).names = s.names := rfl
@[simp] theorem State.ended_host (st : Byte) (x y : Word) : (s.ended st x y).host = s.host := rfl
@[simp] theorem State.ended_params (st : Byte) (x y : Word) : (s.ended st x y).params = s.params := rfl
@[simp] theorem State.ended_resets (st : Byte) (x y : Word) : (s.ended st x y).resets = s.resets := rfl
@[simp] theorem State.ended_binds (st : Byte) (x y : Word) : (s.ended st x y).binds = s.binds := rfl

/-! ### `fail` -/

@[simp] theorem State.fail_cmd (e : Failure) : (s.fail e).cmd = s.cmd := rfl
@[simp] theorem State.fail_a0 (e : Failure) : (s.fail e).a0 = s.a0 := rfl
@[simp] theorem State.fail_a1 (e : Failure) : (s.fail e).a1 = s.a1 := rfl
@[simp] theorem State.fail_a2 (e : Failure) : (s.fail e).a2 = s.a2 := rfl
@[simp] theorem State.fail_r0 (e : Failure) : (s.fail e).r0 = 0 := rfl
@[simp] theorem State.fail_r1 (e : Failure) : (s.fail e).r1 = 0 := rfl
@[simp] theorem State.fail_status (e : Failure) : (s.fail e).status = e.code := rfl
@[simp] theorem State.fail_cur (e : Failure) : (s.fail e).cur = s.cur := rfl
@[simp] theorem State.fail_txLen (e : Failure) : (s.fail e).txLen = s.txLen := rfl
@[simp] theorem State.fail_g (e : Failure) : (s.fail e).g = s.g := rfl
@[simp] theorem State.fail_pmus (e : Failure) : (s.fail e).pmus = s.pmus := rfl
@[simp] theorem State.fail_d (e : Failure) : (s.fail e).d = s.d := rfl
@[simp] theorem State.fail_samples (e : Failure) : (s.fail e).samples = s.samples := rfl
@[simp] theorem State.fail_rxb (e : Failure) : (s.fail e).rxb = s.rxb := rfl
@[simp] theorem State.fail_txb (e : Failure) : (s.fail e).txb = s.txb := rfl
@[simp] theorem State.fail_argb (e : Failure) : (s.fail e).argb = s.argb := rfl
@[simp] theorem State.fail_hb (e : Failure) : (s.fail e).hb = s.hb := rfl
@[simp] theorem State.fail_names (e : Failure) : (s.fail e).names = s.names := rfl
@[simp] theorem State.fail_host (e : Failure) : (s.fail e).host = s.host := rfl
@[simp] theorem State.fail_params (e : Failure) : (s.fail e).params = s.params := rfl
@[simp] theorem State.fail_resets (e : Failure) : (s.fail e).resets = s.resets := rfl
@[simp] theorem State.fail_binds (e : Failure) : (s.fail e).binds = s.binds := rfl

/-! ### `withG` -/

@[simp] theorem State.withG_cmd (g : Global) : (s.withG g).cmd = s.cmd := rfl
@[simp] theorem State.withG_a0 (g : Global) : (s.withG g).a0 = s.a0 := rfl
@[simp] theorem State.withG_a1 (g : Global) : (s.withG g).a1 = s.a1 := rfl
@[simp] theorem State.withG_a2 (g : Global) : (s.withG g).a2 = s.a2 := rfl
@[simp] theorem State.withG_r0 (g : Global) : (s.withG g).r0 = s.r0 := rfl
@[simp] theorem State.withG_r1 (g : Global) : (s.withG g).r1 = s.r1 := rfl
@[simp] theorem State.withG_status (g : Global) : (s.withG g).status = s.status := rfl
@[simp] theorem State.withG_cur (g : Global) : (s.withG g).cur = s.cur := rfl
@[simp] theorem State.withG_txLen (g : Global) : (s.withG g).txLen = s.txLen := rfl
@[simp] theorem State.withG_g (g : Global) : (s.withG g).g = g := rfl
@[simp] theorem State.withG_pmus (g : Global) : (s.withG g).pmus = s.pmus := rfl
@[simp] theorem State.withG_d (g : Global) : (s.withG g).d = s.d := rfl
@[simp] theorem State.withG_samples (g : Global) : (s.withG g).samples = s.samples := rfl
@[simp] theorem State.withG_rxb (g : Global) : (s.withG g).rxb = s.rxb := rfl
@[simp] theorem State.withG_txb (g : Global) : (s.withG g).txb = s.txb := rfl
@[simp] theorem State.withG_argb (g : Global) : (s.withG g).argb = s.argb := rfl
@[simp] theorem State.withG_hb (g : Global) : (s.withG g).hb = s.hb := rfl
@[simp] theorem State.withG_names (g : Global) : (s.withG g).names = s.names := rfl
@[simp] theorem State.withG_host (g : Global) : (s.withG g).host = s.host := rfl
@[simp] theorem State.withG_params (g : Global) : (s.withG g).params = s.params := rfl
@[simp] theorem State.withG_resets (g : Global) : (s.withG g).resets = s.resets := rfl
@[simp] theorem State.withG_binds (g : Global) : (s.withG g).binds = s.binds := rfl

/-! ### `withPmus` -/

@[simp] theorem State.withPmus_cmd (ps : List PmuSlot) : (s.withPmus ps).cmd = s.cmd := rfl
@[simp] theorem State.withPmus_a0 (ps : List PmuSlot) : (s.withPmus ps).a0 = s.a0 := rfl
@[simp] theorem State.withPmus_a1 (ps : List PmuSlot) : (s.withPmus ps).a1 = s.a1 := rfl
@[simp] theorem State.withPmus_a2 (ps : List PmuSlot) : (s.withPmus ps).a2 = s.a2 := rfl
@[simp] theorem State.withPmus_r0 (ps : List PmuSlot) : (s.withPmus ps).r0 = s.r0 := rfl
@[simp] theorem State.withPmus_r1 (ps : List PmuSlot) : (s.withPmus ps).r1 = s.r1 := rfl
@[simp] theorem State.withPmus_status (ps : List PmuSlot) : (s.withPmus ps).status = s.status := rfl
@[simp] theorem State.withPmus_cur (ps : List PmuSlot) : (s.withPmus ps).cur = s.cur := rfl
@[simp] theorem State.withPmus_txLen (ps : List PmuSlot) : (s.withPmus ps).txLen = s.txLen := rfl
@[simp] theorem State.withPmus_g (ps : List PmuSlot) : (s.withPmus ps).g = s.g := rfl
@[simp] theorem State.withPmus_pmus (ps : List PmuSlot) : (s.withPmus ps).pmus = ps := rfl
@[simp] theorem State.withPmus_d (ps : List PmuSlot) : (s.withPmus ps).d = s.d := rfl
@[simp] theorem State.withPmus_samples (ps : List PmuSlot) : (s.withPmus ps).samples = s.samples := rfl
@[simp] theorem State.withPmus_rxb (ps : List PmuSlot) : (s.withPmus ps).rxb = s.rxb := rfl
@[simp] theorem State.withPmus_txb (ps : List PmuSlot) : (s.withPmus ps).txb = s.txb := rfl
@[simp] theorem State.withPmus_argb (ps : List PmuSlot) : (s.withPmus ps).argb = s.argb := rfl
@[simp] theorem State.withPmus_hb (ps : List PmuSlot) : (s.withPmus ps).hb = s.hb := rfl
@[simp] theorem State.withPmus_names (ps : List PmuSlot) : (s.withPmus ps).names = s.names := rfl
@[simp] theorem State.withPmus_host (ps : List PmuSlot) : (s.withPmus ps).host = s.host := rfl
@[simp] theorem State.withPmus_params (ps : List PmuSlot) : (s.withPmus ps).params = s.params := rfl
@[simp] theorem State.withPmus_resets (ps : List PmuSlot) : (s.withPmus ps).resets = s.resets := rfl
@[simp] theorem State.withPmus_binds (ps : List PmuSlot) : (s.withPmus ps).binds = s.binds := rfl

/-! ### `withSlot` -/

@[simp] theorem State.withSlot_cmd (p : PmuIndex) (x : PmuSlot) : (s.withSlot p x).cmd = s.cmd := rfl
@[simp] theorem State.withSlot_a0 (p : PmuIndex) (x : PmuSlot) : (s.withSlot p x).a0 = s.a0 := rfl
@[simp] theorem State.withSlot_a1 (p : PmuIndex) (x : PmuSlot) : (s.withSlot p x).a1 = s.a1 := rfl
@[simp] theorem State.withSlot_a2 (p : PmuIndex) (x : PmuSlot) : (s.withSlot p x).a2 = s.a2 := rfl
@[simp] theorem State.withSlot_r0 (p : PmuIndex) (x : PmuSlot) : (s.withSlot p x).r0 = s.r0 := rfl
@[simp] theorem State.withSlot_r1 (p : PmuIndex) (x : PmuSlot) : (s.withSlot p x).r1 = s.r1 := rfl
@[simp] theorem State.withSlot_status (p : PmuIndex) (x : PmuSlot) : (s.withSlot p x).status = s.status := rfl
@[simp] theorem State.withSlot_cur (p : PmuIndex) (x : PmuSlot) : (s.withSlot p x).cur = s.cur := rfl
@[simp] theorem State.withSlot_txLen (p : PmuIndex) (x : PmuSlot) : (s.withSlot p x).txLen = s.txLen := rfl
@[simp] theorem State.withSlot_g (p : PmuIndex) (x : PmuSlot) : (s.withSlot p x).g = s.g := rfl
@[simp] theorem State.withSlot_pmus (p : PmuIndex) (x : PmuSlot) : (s.withSlot p x).pmus = s.pmus.set (p.toNat - 1) x := rfl
@[simp] theorem State.withSlot_d (p : PmuIndex) (x : PmuSlot) : (s.withSlot p x).d = s.d := rfl
@[simp] theorem State.withSlot_samples (p : PmuIndex) (x : PmuSlot) : (s.withSlot p x).samples = s.samples := rfl
@[simp] theorem State.withSlot_rxb (p : PmuIndex) (x : PmuSlot) : (s.withSlot p x).rxb = s.rxb := rfl
@[simp] theorem State.withSlot_txb (p : PmuIndex) (x : PmuSlot) : (s.withSlot p x).txb = s.txb := rfl
@[simp] theorem State.withSlot_argb (p : PmuIndex) (x : PmuSlot) : (s.withSlot p x).argb = s.argb := rfl
@[simp] theorem State.withSlot_hb (p : PmuIndex) (x : PmuSlot) : (s.withSlot p x).hb = s.hb := rfl
@[simp] theorem State.withSlot_names (p : PmuIndex) (x : PmuSlot) : (s.withSlot p x).names = s.names := rfl
@[simp] theorem State.withSlot_host (p : PmuIndex) (x : PmuSlot) : (s.withSlot p x).host = s.host := rfl
@[simp] theorem State.withSlot_params (p : PmuIndex) (x : PmuSlot) : (s.withSlot p x).params = s.params := rfl
@[simp] theorem State.withSlot_resets (p : PmuIndex) (x : PmuSlot) : (s.withSlot p x).resets = s.resets := rfl
@[simp] theorem State.withSlot_binds (p : PmuIndex) (x : PmuSlot) : (s.withSlot p x).binds = s.binds := rfl

/-! ### `withCodec` -/

@[simp] theorem State.withCodec_cmd (d : Codec) (ss : List SampleSlot) : (s.withCodec d ss).cmd = s.cmd := rfl
@[simp] theorem State.withCodec_a0 (d : Codec) (ss : List SampleSlot) : (s.withCodec d ss).a0 = s.a0 := rfl
@[simp] theorem State.withCodec_a1 (d : Codec) (ss : List SampleSlot) : (s.withCodec d ss).a1 = s.a1 := rfl
@[simp] theorem State.withCodec_a2 (d : Codec) (ss : List SampleSlot) : (s.withCodec d ss).a2 = s.a2 := rfl
@[simp] theorem State.withCodec_r0 (d : Codec) (ss : List SampleSlot) : (s.withCodec d ss).r0 = s.r0 := rfl
@[simp] theorem State.withCodec_r1 (d : Codec) (ss : List SampleSlot) : (s.withCodec d ss).r1 = s.r1 := rfl
@[simp] theorem State.withCodec_status (d : Codec) (ss : List SampleSlot) : (s.withCodec d ss).status = s.status := rfl
@[simp] theorem State.withCodec_cur (d : Codec) (ss : List SampleSlot) : (s.withCodec d ss).cur = s.cur := rfl
@[simp] theorem State.withCodec_txLen (d : Codec) (ss : List SampleSlot) : (s.withCodec d ss).txLen = s.txLen := rfl
@[simp] theorem State.withCodec_g (d : Codec) (ss : List SampleSlot) : (s.withCodec d ss).g = s.g := rfl
@[simp] theorem State.withCodec_pmus (d : Codec) (ss : List SampleSlot) : (s.withCodec d ss).pmus = s.pmus := rfl
@[simp] theorem State.withCodec_d (d : Codec) (ss : List SampleSlot) : (s.withCodec d ss).d = d := rfl
@[simp] theorem State.withCodec_samples (d : Codec) (ss : List SampleSlot) : (s.withCodec d ss).samples = ss := rfl
@[simp] theorem State.withCodec_rxb (d : Codec) (ss : List SampleSlot) : (s.withCodec d ss).rxb = s.rxb := rfl
@[simp] theorem State.withCodec_txb (d : Codec) (ss : List SampleSlot) : (s.withCodec d ss).txb = s.txb := rfl
@[simp] theorem State.withCodec_argb (d : Codec) (ss : List SampleSlot) : (s.withCodec d ss).argb = s.argb := rfl
@[simp] theorem State.withCodec_hb (d : Codec) (ss : List SampleSlot) : (s.withCodec d ss).hb = s.hb := rfl
@[simp] theorem State.withCodec_names (d : Codec) (ss : List SampleSlot) : (s.withCodec d ss).names = s.names := rfl
@[simp] theorem State.withCodec_host (d : Codec) (ss : List SampleSlot) : (s.withCodec d ss).host = s.host := rfl
@[simp] theorem State.withCodec_params (d : Codec) (ss : List SampleSlot) : (s.withCodec d ss).params = s.params := rfl
@[simp] theorem State.withCodec_resets (d : Codec) (ss : List SampleSlot) : (s.withCodec d ss).resets = s.resets := rfl
@[simp] theorem State.withCodec_binds (d : Codec) (ss : List SampleSlot) : (s.withCodec d ss).binds = s.binds := rfl

/-! ### `emitFrame` -/

@[simp] theorem State.emitFrame_cmd (f : Bytes) : (s.emitFrame f).cmd = s.cmd := rfl
@[simp] theorem State.emitFrame_a0 (f : Bytes) : (s.emitFrame f).a0 = s.a0 := rfl
@[simp] theorem State.emitFrame_a1 (f : Bytes) : (s.emitFrame f).a1 = s.a1 := rfl
@[simp] theorem State.emitFrame_a2 (f : Bytes) : (s.emitFrame f).a2 = s.a2 := rfl
@[simp] theorem State.emitFrame_r0 (f : Bytes) : (s.emitFrame f).r0 = s.r0 := rfl
@[simp] theorem State.emitFrame_r1 (f : Bytes) : (s.emitFrame f).r1 = s.r1 := rfl
@[simp] theorem State.emitFrame_status (f : Bytes) : (s.emitFrame f).status = s.status := rfl
@[simp] theorem State.emitFrame_cur (f : Bytes) : (s.emitFrame f).cur = none := rfl
@[simp] theorem State.emitFrame_txLen (f : Bytes) : (s.emitFrame f).txLen = BitVec.ofNat 16 f.length := rfl
@[simp] theorem State.emitFrame_g (f : Bytes) : (s.emitFrame f).g = s.g := rfl
@[simp] theorem State.emitFrame_pmus (f : Bytes) : (s.emitFrame f).pmus = s.pmus := rfl
@[simp] theorem State.emitFrame_d (f : Bytes) : (s.emitFrame f).d = s.d := rfl
@[simp] theorem State.emitFrame_samples (f : Bytes) : (s.emitFrame f).samples = s.samples := rfl
@[simp] theorem State.emitFrame_rxb (f : Bytes) : (s.emitFrame f).rxb = s.rxb := rfl
@[simp] theorem State.emitFrame_txb (f : Bytes) : (s.emitFrame f).txb = s.txb.insertBytes 0 f := rfl
@[simp] theorem State.emitFrame_argb (f : Bytes) : (s.emitFrame f).argb = s.argb := rfl
@[simp] theorem State.emitFrame_hb (f : Bytes) : (s.emitFrame f).hb = s.hb := rfl
@[simp] theorem State.emitFrame_names (f : Bytes) : (s.emitFrame f).names = s.names := rfl
@[simp] theorem State.emitFrame_host (f : Bytes) : (s.emitFrame f).host = s.host := rfl
@[simp] theorem State.emitFrame_params (f : Bytes) : (s.emitFrame f).params = s.params := rfl
@[simp] theorem State.emitFrame_resets (f : Bytes) : (s.emitFrame f).resets = s.resets := rfl
@[simp] theorem State.emitFrame_binds (f : Bytes) : (s.emitFrame f).binds = s.binds := rfl

/-! ### `decoded` -/

@[simp] theorem State.decoded_cmd (ich : Bool) (ss : List SampleSlot) : (s.decoded ich ss).cmd = s.cmd := rfl
@[simp] theorem State.decoded_a0 (ich : Bool) (ss : List SampleSlot) : (s.decoded ich ss).a0 = s.a0 := rfl
@[simp] theorem State.decoded_a1 (ich : Bool) (ss : List SampleSlot) : (s.decoded ich ss).a1 = s.a1 := rfl
@[simp] theorem State.decoded_a2 (ich : Bool) (ss : List SampleSlot) : (s.decoded ich ss).a2 = s.a2 := rfl
@[simp] theorem State.decoded_r0 (ich : Bool) (ss : List SampleSlot) : (s.decoded ich ss).r0 = s.r0 := rfl
@[simp] theorem State.decoded_r1 (ich : Bool) (ss : List SampleSlot) : (s.decoded ich ss).r1 = s.r1 := rfl
@[simp] theorem State.decoded_status (ich : Bool) (ss : List SampleSlot) : (s.decoded ich ss).status = s.status := rfl
@[simp] theorem State.decoded_cur (ich : Bool) (ss : List SampleSlot) : (s.decoded ich ss).cur = none := rfl
@[simp] theorem State.decoded_txLen (ich : Bool) (ss : List SampleSlot) : (s.decoded ich ss).txLen = s.txLen := rfl
@[simp] theorem State.decoded_g (ich : Bool) (ss : List SampleSlot) : (s.decoded ich ss).g = s.g := rfl
@[simp] theorem State.decoded_pmus (ich : Bool) (ss : List SampleSlot) : (s.decoded ich ss).pmus = s.pmus := rfl
@[simp] theorem State.decoded_d (ich : Bool) (ss : List SampleSlot) : (s.decoded ich ss).d = { s.d with sampleValid := true, statValid := if ich then true else s.d.statValid } := rfl
@[simp] theorem State.decoded_samples (ich : Bool) (ss : List SampleSlot) : (s.decoded ich ss).samples = ss := rfl
@[simp] theorem State.decoded_rxb (ich : Bool) (ss : List SampleSlot) : (s.decoded ich ss).rxb = s.rxb := rfl
@[simp] theorem State.decoded_txb (ich : Bool) (ss : List SampleSlot) : (s.decoded ich ss).txb = s.txb := rfl
@[simp] theorem State.decoded_argb (ich : Bool) (ss : List SampleSlot) : (s.decoded ich ss).argb = s.argb := rfl
@[simp] theorem State.decoded_hb (ich : Bool) (ss : List SampleSlot) : (s.decoded ich ss).hb = s.hb := rfl
@[simp] theorem State.decoded_names (ich : Bool) (ss : List SampleSlot) : (s.decoded ich ss).names = s.names := rfl
@[simp] theorem State.decoded_host (ich : Bool) (ss : List SampleSlot) : (s.decoded ich ss).host = s.host := rfl
@[simp] theorem State.decoded_params (ich : Bool) (ss : List SampleSlot) : (s.decoded ich ss).params = s.params := rfl
@[simp] theorem State.decoded_resets (ich : Bool) (ss : List SampleSlot) : (s.decoded ich ss).resets = s.resets := rfl
@[simp] theorem State.decoded_binds (ich : Bool) (ss : List SampleSlot) : (s.decoded ich ss).binds = s.binds := rfl

/-! ### `latchCmd` -/

@[simp] theorem State.latchCmd_cmd (w : Word) (rest : List HostAccess) : (s.latchCmd w rest).cmd = w := rfl
@[simp] theorem State.latchCmd_a0 (w : Word) (rest : List HostAccess) : (s.latchCmd w rest).a0 = s.a0 := rfl
@[simp] theorem State.latchCmd_a1 (w : Word) (rest : List HostAccess) : (s.latchCmd w rest).a1 = s.a1 := rfl
@[simp] theorem State.latchCmd_a2 (w : Word) (rest : List HostAccess) : (s.latchCmd w rest).a2 = s.a2 := rfl
@[simp] theorem State.latchCmd_r0 (w : Word) (rest : List HostAccess) : (s.latchCmd w rest).r0 = s.r0 := rfl
@[simp] theorem State.latchCmd_r1 (w : Word) (rest : List HostAccess) : (s.latchCmd w rest).r1 = s.r1 := rfl
@[simp] theorem State.latchCmd_status (w : Word) (rest : List HostAccess) : (s.latchCmd w rest).status = s.status := rfl
@[simp] theorem State.latchCmd_cur (w : Word) (rest : List HostAccess) : (s.latchCmd w rest).cur = s.cur := rfl
@[simp] theorem State.latchCmd_txLen (w : Word) (rest : List HostAccess) : (s.latchCmd w rest).txLen = s.txLen := rfl
@[simp] theorem State.latchCmd_g (w : Word) (rest : List HostAccess) : (s.latchCmd w rest).g = s.g := rfl
@[simp] theorem State.latchCmd_pmus (w : Word) (rest : List HostAccess) : (s.latchCmd w rest).pmus = s.pmus := rfl
@[simp] theorem State.latchCmd_d (w : Word) (rest : List HostAccess) : (s.latchCmd w rest).d = s.d := rfl
@[simp] theorem State.latchCmd_samples (w : Word) (rest : List HostAccess) : (s.latchCmd w rest).samples = s.samples := rfl
@[simp] theorem State.latchCmd_rxb (w : Word) (rest : List HostAccess) : (s.latchCmd w rest).rxb = s.rxb := rfl
@[simp] theorem State.latchCmd_txb (w : Word) (rest : List HostAccess) : (s.latchCmd w rest).txb = s.txb := rfl
@[simp] theorem State.latchCmd_argb (w : Word) (rest : List HostAccess) : (s.latchCmd w rest).argb = s.argb := rfl
@[simp] theorem State.latchCmd_hb (w : Word) (rest : List HostAccess) : (s.latchCmd w rest).hb = s.hb := rfl
@[simp] theorem State.latchCmd_names (w : Word) (rest : List HostAccess) : (s.latchCmd w rest).names = s.names := rfl
@[simp] theorem State.latchCmd_host (w : Word) (rest : List HostAccess) : (s.latchCmd w rest).host = rest := rfl
@[simp] theorem State.latchCmd_params (w : Word) (rest : List HostAccess) : (s.latchCmd w rest).params = s.params := rfl
@[simp] theorem State.latchCmd_resets (w : Word) (rest : List HostAccess) : (s.latchCmd w rest).resets = s.resets := rfl
@[simp] theorem State.latchCmd_binds (w : Word) (rest : List HostAccess) : (s.latchCmd w rest).binds = s.binds := rfl

/-! ### `withNames` -/

@[simp] theorem State.withNames_cmd (h : Word) (ns : List Name16) : (s.withNames h ns).cmd = s.cmd := rfl
@[simp] theorem State.withNames_a0 (h : Word) (ns : List Name16) : (s.withNames h ns).a0 = s.a0 := rfl
@[simp] theorem State.withNames_a1 (h : Word) (ns : List Name16) : (s.withNames h ns).a1 = s.a1 := rfl
@[simp] theorem State.withNames_a2 (h : Word) (ns : List Name16) : (s.withNames h ns).a2 = s.a2 := rfl
@[simp] theorem State.withNames_r0 (h : Word) (ns : List Name16) : (s.withNames h ns).r0 = s.r0 := rfl
@[simp] theorem State.withNames_r1 (h : Word) (ns : List Name16) : (s.withNames h ns).r1 = s.r1 := rfl
@[simp] theorem State.withNames_status (h : Word) (ns : List Name16) : (s.withNames h ns).status = s.status := rfl
@[simp] theorem State.withNames_cur (h : Word) (ns : List Name16) : (s.withNames h ns).cur = s.cur := rfl
@[simp] theorem State.withNames_txLen (h : Word) (ns : List Name16) : (s.withNames h ns).txLen = s.txLen := rfl
@[simp] theorem State.withNames_g (h : Word) (ns : List Name16) : (s.withNames h ns).g = s.g := rfl
@[simp] theorem State.withNames_pmus (h : Word) (ns : List Name16) : (s.withNames h ns).pmus = s.pmus := rfl
@[simp] theorem State.withNames_d (h : Word) (ns : List Name16) : (s.withNames h ns).d = s.d := rfl
@[simp] theorem State.withNames_samples (h : Word) (ns : List Name16) : (s.withNames h ns).samples = s.samples := rfl
@[simp] theorem State.withNames_rxb (h : Word) (ns : List Name16) : (s.withNames h ns).rxb = s.rxb := rfl
@[simp] theorem State.withNames_txb (h : Word) (ns : List Name16) : (s.withNames h ns).txb = s.txb := rfl
@[simp] theorem State.withNames_argb (h : Word) (ns : List Name16) : (s.withNames h ns).argb = s.argb := rfl
@[simp] theorem State.withNames_hb (h : Word) (ns : List Name16) : (s.withNames h ns).hb = s.hb := rfl
@[simp] theorem State.withNames_names (h : Word) (ns : List Name16) : (s.withNames h ns).names = (h, ns) :: s.names.filter (·.1 ≠ h) := rfl
@[simp] theorem State.withNames_host (h : Word) (ns : List Name16) : (s.withNames h ns).host = s.host := rfl
@[simp] theorem State.withNames_params (h : Word) (ns : List Name16) : (s.withNames h ns).params = s.params := rfl
@[simp] theorem State.withNames_resets (h : Word) (ns : List Name16) : (s.withNames h ns).resets = s.resets := rfl
@[simp] theorem State.withNames_binds (h : Word) (ns : List Name16) : (s.withNames h ns).binds = s.binds := rfl

/-! ### `presentCmd` -/

@[simp] theorem State.presentCmd_cmd (w : Word) : (s.presentCmd w).cmd = s.cmd := rfl
@[simp] theorem State.presentCmd_a0 (w : Word) : (s.presentCmd w).a0 = s.a0 := rfl
@[simp] theorem State.presentCmd_a1 (w : Word) : (s.presentCmd w).a1 = s.a1 := rfl
@[simp] theorem State.presentCmd_a2 (w : Word) : (s.presentCmd w).a2 = s.a2 := rfl
@[simp] theorem State.presentCmd_r0 (w : Word) : (s.presentCmd w).r0 = s.r0 := rfl
@[simp] theorem State.presentCmd_r1 (w : Word) : (s.presentCmd w).r1 = s.r1 := rfl
@[simp] theorem State.presentCmd_status (w : Word) : (s.presentCmd w).status = s.status := rfl
@[simp] theorem State.presentCmd_cur (w : Word) : (s.presentCmd w).cur = s.cur := rfl
@[simp] theorem State.presentCmd_txLen (w : Word) : (s.presentCmd w).txLen = s.txLen := rfl
@[simp] theorem State.presentCmd_g (w : Word) : (s.presentCmd w).g = s.g := rfl
@[simp] theorem State.presentCmd_pmus (w : Word) : (s.presentCmd w).pmus = s.pmus := rfl
@[simp] theorem State.presentCmd_d (w : Word) : (s.presentCmd w).d = s.d := rfl
@[simp] theorem State.presentCmd_samples (w : Word) : (s.presentCmd w).samples = s.samples := rfl
@[simp] theorem State.presentCmd_rxb (w : Word) : (s.presentCmd w).rxb = s.rxb := rfl
@[simp] theorem State.presentCmd_txb (w : Word) : (s.presentCmd w).txb = s.txb := rfl
@[simp] theorem State.presentCmd_argb (w : Word) : (s.presentCmd w).argb = s.argb := rfl
@[simp] theorem State.presentCmd_hb (w : Word) : (s.presentCmd w).hb = s.hb := rfl
@[simp] theorem State.presentCmd_names (w : Word) : (s.presentCmd w).names = s.names := rfl
@[simp] theorem State.presentCmd_host (w : Word) : (s.presentCmd w).host = .writeCmd w :: s.host := rfl
@[simp] theorem State.presentCmd_params (w : Word) : (s.presentCmd w).params = s.params := rfl
@[simp] theorem State.presentCmd_resets (w : Word) : (s.presentCmd w).resets = s.resets := rfl
@[simp] theorem State.presentCmd_binds (w : Word) : (s.presentCmd w).binds = s.binds := rfl

/-! ### `withMem` -/

@[simp] theorem State.mem_rxb : s.mem .rxb = s.rxb := rfl
@[simp] theorem State.mem_txb : s.mem .txb = s.txb := rfl
@[simp] theorem State.mem_argb : s.mem .argb = s.argb := rfl
@[simp] theorem State.mem_hb : s.mem .hb = s.hb := rfl
@[simp] theorem State.withMem_cmd (b : Buffer) (m : Memory) : (s.withMem b m).cmd = s.cmd := by cases b <;> rfl
@[simp] theorem State.withMem_a0 (b : Buffer) (m : Memory) : (s.withMem b m).a0 = s.a0 := by cases b <;> rfl
@[simp] theorem State.withMem_a1 (b : Buffer) (m : Memory) : (s.withMem b m).a1 = s.a1 := by cases b <;> rfl
@[simp] theorem State.withMem_a2 (b : Buffer) (m : Memory) : (s.withMem b m).a2 = s.a2 := by cases b <;> rfl
@[simp] theorem State.withMem_r0 (b : Buffer) (m : Memory) : (s.withMem b m).r0 = s.r0 := by cases b <;> rfl
@[simp] theorem State.withMem_r1 (b : Buffer) (m : Memory) : (s.withMem b m).r1 = s.r1 := by cases b <;> rfl
@[simp] theorem State.withMem_status (b : Buffer) (m : Memory) : (s.withMem b m).status = s.status := by cases b <;> rfl
@[simp] theorem State.withMem_cur (b : Buffer) (m : Memory) : (s.withMem b m).cur = s.cur := by cases b <;> rfl
@[simp] theorem State.withMem_txLen (b : Buffer) (m : Memory) : (s.withMem b m).txLen = s.txLen := by cases b <;> rfl
@[simp] theorem State.withMem_g (b : Buffer) (m : Memory) : (s.withMem b m).g = s.g := by cases b <;> rfl
@[simp] theorem State.withMem_pmus (b : Buffer) (m : Memory) : (s.withMem b m).pmus = s.pmus := by cases b <;> rfl
@[simp] theorem State.withMem_d (b : Buffer) (m : Memory) : (s.withMem b m).d = s.d := by cases b <;> rfl
@[simp] theorem State.withMem_samples (b : Buffer) (m : Memory) : (s.withMem b m).samples = s.samples := by cases b <;> rfl
@[simp] theorem State.withMem_rxb_self (m : Memory) : (s.withMem .rxb m).rxb = m := rfl
@[simp] theorem State.withMem_txb_self (m : Memory) : (s.withMem .txb m).txb = m := rfl
@[simp] theorem State.withMem_argb_self (m : Memory) : (s.withMem .argb m).argb = m := rfl
@[simp] theorem State.withMem_hb_self (m : Memory) : (s.withMem .hb m).hb = m := rfl
@[simp] theorem State.withMem_names (b : Buffer) (m : Memory) : (s.withMem b m).names = s.names := by cases b <;> rfl
@[simp] theorem State.withMem_host (b : Buffer) (m : Memory) : (s.withMem b m).host = s.host := by cases b <;> rfl
@[simp] theorem State.withMem_params (b : Buffer) (m : Memory) : (s.withMem b m).params = s.params := by cases b <;> rfl
@[simp] theorem State.withMem_resets (b : Buffer) (m : Memory) : (s.withMem b m).resets = s.resets := by cases b <;> rfl
@[simp] theorem State.withMem_binds (b : Buffer) (m : Memory) : (s.withMem b m).binds = s.binds := by cases b <;> rfl
@[simp] theorem State.withMem_rxb_txb (m : Memory) : (s.withMem .rxb m).txb = s.txb := rfl
@[simp] theorem State.withMem_rxb_argb (m : Memory) : (s.withMem .rxb m).argb = s.argb := rfl
@[simp] theorem State.withMem_rxb_hb (m : Memory) : (s.withMem .rxb m).hb = s.hb := rfl
@[simp] theorem State.withMem_txb_rxb (m : Memory) : (s.withMem .txb m).rxb = s.rxb := rfl
@[simp] theorem State.withMem_txb_argb (m : Memory) : (s.withMem .txb m).argb = s.argb := rfl
@[simp] theorem State.withMem_txb_hb (m : Memory) : (s.withMem .txb m).hb = s.hb := rfl
@[simp] theorem State.withMem_argb_rxb (m : Memory) : (s.withMem .argb m).rxb = s.rxb := rfl
@[simp] theorem State.withMem_argb_txb (m : Memory) : (s.withMem .argb m).txb = s.txb := rfl
@[simp] theorem State.withMem_argb_hb (m : Memory) : (s.withMem .argb m).hb = s.hb := rfl
@[simp] theorem State.withMem_hb_rxb (m : Memory) : (s.withMem .hb m).rxb = s.rxb := rfl
@[simp] theorem State.withMem_hb_txb (m : Memory) : (s.withMem .hb m).txb = s.txb := rfl
@[simp] theorem State.withMem_hb_argb (m : Memory) : (s.withMem .hb m).argb = s.argb := rfl
@[simp] theorem State.withMem_mem_self (b : Buffer) (m : Memory) : (s.withMem b m).mem b = m := by cases b <;> rfl
theorem State.withMem_mem_other {b c : Buffer} (h : c ≠ b) (m : Memory) : (s.withMem b m).mem c = s.mem c := by
  cases b <;> cases c <;> first | rfl | exact absurd rfl h

/-! ### `withOperand` -/

@[simp] theorem State.withOperand_cmd (r : OperandReg) (w : Word) : (s.withOperand r w).cmd = s.cmd := by cases r <;> rfl
@[simp] theorem State.withOperand_a0_self (w : Word) : (s.withOperand .a0 w).a0 = w := rfl
@[simp] theorem State.withOperand_a1_self (w : Word) : (s.withOperand .a1 w).a1 = w := rfl
@[simp] theorem State.withOperand_a2_self (w : Word) : (s.withOperand .a2 w).a2 = w := rfl
@[simp] theorem State.withOperand_r0 (r : OperandReg) (w : Word) : (s.withOperand r w).r0 = s.r0 := by cases r <;> rfl
@[simp] theorem State.withOperand_r1 (r : OperandReg) (w : Word) : (s.withOperand r w).r1 = s.r1 := by cases r <;> rfl
@[simp] theorem State.withOperand_status (r : OperandReg) (w : Word) : (s.withOperand r w).status = s.status := by cases r <;> rfl
@[simp] theorem State.withOperand_cur (r : OperandReg) (w : Word) : (s.withOperand r w).cur = s.cur := by cases r <;> rfl
@[simp] theorem State.withOperand_txLen (r : OperandReg) (w : Word) : (s.withOperand r w).txLen = s.txLen := by cases r <;> rfl
@[simp] theorem State.withOperand_g (r : OperandReg) (w : Word) : (s.withOperand r w).g = s.g := by cases r <;> rfl
@[simp] theorem State.withOperand_pmus (r : OperandReg) (w : Word) : (s.withOperand r w).pmus = s.pmus := by cases r <;> rfl
@[simp] theorem State.withOperand_d (r : OperandReg) (w : Word) : (s.withOperand r w).d = s.d := by cases r <;> rfl
@[simp] theorem State.withOperand_samples (r : OperandReg) (w : Word) : (s.withOperand r w).samples = s.samples := by cases r <;> rfl
@[simp] theorem State.withOperand_rxb (r : OperandReg) (w : Word) : (s.withOperand r w).rxb = s.rxb := by cases r <;> rfl
@[simp] theorem State.withOperand_txb (r : OperandReg) (w : Word) : (s.withOperand r w).txb = s.txb := by cases r <;> rfl
@[simp] theorem State.withOperand_argb (r : OperandReg) (w : Word) : (s.withOperand r w).argb = s.argb := by cases r <;> rfl
@[simp] theorem State.withOperand_hb (r : OperandReg) (w : Word) : (s.withOperand r w).hb = s.hb := by cases r <;> rfl
@[simp] theorem State.withOperand_names (r : OperandReg) (w : Word) : (s.withOperand r w).names = s.names := by cases r <;> rfl
@[simp] theorem State.withOperand_host (r : OperandReg) (w : Word) : (s.withOperand r w).host = s.host := by cases r <;> rfl
@[simp] theorem State.withOperand_params (r : OperandReg) (w : Word) : (s.withOperand r w).params = s.params := by cases r <;> rfl
@[simp] theorem State.withOperand_resets (r : OperandReg) (w : Word) : (s.withOperand r w).resets = s.resets := by cases r <;> rfl
@[simp] theorem State.withOperand_binds (r : OperandReg) (w : Word) : (s.withOperand r w).binds = s.binds := by cases r <;> rfl
@[simp] theorem State.withOperand_a0_a1 (w : Word) : (s.withOperand .a0 w).a1 = s.a1 := rfl
@[simp] theorem State.withOperand_a0_a2 (w : Word) : (s.withOperand .a0 w).a2 = s.a2 := rfl
@[simp] theorem State.withOperand_a1_a0 (w : Word) : (s.withOperand .a1 w).a0 = s.a0 := rfl
@[simp] theorem State.withOperand_a1_a2 (w : Word) : (s.withOperand .a1 w).a2 = s.a2 := rfl
@[simp] theorem State.withOperand_a2_a0 (w : Word) : (s.withOperand .a2 w).a0 = s.a0 := rfl
@[simp] theorem State.withOperand_a2_a1 (w : Word) : (s.withOperand .a2 w).a1 = s.a1 := rfl

end Sys2Proof.Machine
end

