-- ==== Sys2Proof/Laws/Memory.lean ====
section
/-! SUPPORT. Laws/Memory.lean: a byte read after a write, and every memory operation keeps the canonical form. -/

namespace Sys2Proof.Machine

/-! ### Reading what was written -/

theorem Memory.lookup_insert_self (m : Memory) (a : Nat) (v : Byte) : (m.insert a v).lookup a = some v := by
  induction m with
  | nil => simp [Memory.insert, Memory.lookup]
  | cons c m ih =>
    obtain ⟨b, w⟩ := c
    simp only [Memory.insert]
    split
    · simp [Memory.lookup]
    · split
      · simp [Memory.lookup]
      · rename_i h; simp [Memory.lookup, h, ih]

theorem Memory.lookup_insert_other (m : Memory) {a x : Nat} (h : x ≠ a) (v : Byte) :
    (m.insert a v).lookup x = m.lookup x := by
  induction m with
  | nil => simp [Memory.insert, Memory.lookup, h]
  | cons c m ih =>
    obtain ⟨b, w⟩ := c
    simp only [Memory.insert]
    split
    · simp [Memory.lookup, h]
    · split
      · rename_i hab; subst hab; simp [Memory.lookup, h]
      · simp [Memory.lookup, ih]

/-- A byte sequence reads back in place, and every other address keeps what it held. -/
theorem Memory.lookup_insertBytes (m : Memory) (a x : Nat) (bs : Bytes) :
    (m.insertBytes a bs).lookup x =
      if h : a ≤ x ∧ x - a < bs.length then some bs[x - a] else m.lookup x := by
  induction bs generalizing m a with
  | nil => simp [Memory.insertBytes]
  | cons v vs ih =>
    rw [Memory.insertBytes, ih]
    by_cases hx : x = a
    · subst hx; simp [Memory.lookup_insert_self]
    · by_cases hlt : a < x
      · have hsub : x - a = (x - (a + 1)) + 1 := by omega
        simp [hsub, show a + 1 ≤ x from hlt, show a ≤ x by omega, Memory.lookup_insert_other _ hx]
      · simp [show ¬ (a + 1 ≤ x) by omega, show ¬ (a ≤ x) by omega, Memory.lookup_insert_other _ hx]

/-! ### The canonical form -/

theorem Memory.wf_iff {size : Nat} {m : Memory} :
    Memory.wf size m = true ↔ m.Pairwise (fun x y => x.1 < y.1) ∧ ∀ c ∈ m, c.1 < size := by
  simp [Memory.wf]

theorem Memory.mem_insert {m : Memory} {a : Nat} {v : Byte} {c : Host.Cell} (h : c ∈ m.insert a v) :
    c = (a, v) ∨ c ∈ m := by
  induction m with
  | nil => simpa [Memory.insert] using h
  | cons d m ih =>
    obtain ⟨b, w⟩ := d
    simp only [Memory.insert] at h
    split at h
    · simpa using h
    · split at h
      · simp only [List.mem_cons] at h ⊢; tauto
      · simp only [List.mem_cons] at h ⊢
        rcases h with h | h
        · tauto
        · have := ih h; tauto

theorem Memory.wf_insert {size : Nat} {m : Memory} {a : Nat} (ha : a < size) (v : Byte)
    (h : Memory.wf size m = true) : Memory.wf size (m.insert a v) = true := by
  rw [Memory.wf_iff] at h ⊢
  refine ⟨?_, fun c hc => ?_⟩
  · replace h := h.1
    induction m with
    | nil => simp [Memory.insert]
    | cons d m ih =>
      obtain ⟨b, w⟩ := d
      rw [List.pairwise_cons] at h
      simp only [Memory.insert]
      split
      · rename_i hab
        refine List.pairwise_cons.2 ⟨fun c hc => ?_, List.pairwise_cons.2 h⟩
        rcases List.mem_cons.1 hc with rfl | hc
        · exact hab
        · exact Nat.lt_trans hab (h.1 c hc)
      · split
        · rename_i hab
          exact List.pairwise_cons.2 ⟨fun c hc => by have := h.1 c hc; simp only at this ⊢; omega, h.2⟩
        · refine List.pairwise_cons.2 ⟨fun c hc => ?_, ih h.2⟩
          rcases Memory.mem_insert hc with rfl | hc
          · simp only; omega
          · exact h.1 c hc
  · rcases Memory.mem_insert hc with rfl | hc
    · exact ha
    · exact h.2 c hc

theorem Memory.wf_insertBytes {size : Nat} {m : Memory} {a : Nat} {bs : Bytes} (ha : a + bs.length ≤ size)
    (h : Memory.wf size m = true) : Memory.wf size (m.insertBytes a bs) = true := by
  induction bs generalizing m a with
  | nil => exact h
  | cons v vs ih =>
    simp only [List.length_cons] at ha
    exact ih (by omega) (Memory.wf_insert (by omega) v h)

/-- The reset state's buffers have the form. -/
theorem reset_memory_wf (b : Buffer) : Memory.wf (State.reset.params.size b) (State.reset.mem b) = true := by
  cases b <;> rfl

/-! ### Bytes of a state -/

theorem State.readByte_congr {s t : State} {b : Buffer} {a : Nat} (hm : t.mem b = s.mem b) (hr : t.resets = s.resets) :
    t.readByte b a = s.readByte b a := by
  simp [State.readByte, hm, hr]

/-- What a byte reads as after a byte sequence is stored. -/
theorem State.readByte_writeBytes (s : State) (b c : Buffer) (a x : Nat) (bs : Bytes) :
    (s.writeBytes b a bs).readByte c x =
      if h : c = b ∧ a ≤ x ∧ x - a < bs.length then bs[x - a]'(h.2.2) else s.readByte c x := by
  by_cases hc : c = b
  · subst hc
    simp only [State.readByte, State.writeBytes, State.withMem_mem_self, Memory.lookup_insertBytes, State.withMem_resets,
      true_and]
    split <;> simp
  · simp [State.readByte, State.writeBytes, State.withMem_mem_other _ hc, hc]

/-- What a byte reads as after an encoder stored its frame (R260). -/
theorem State.readByte_emitFrame (s : State) (c : Buffer) (x : Nat) (f : Bytes) :
    (s.emitFrame f).readByte c x =
      if h : c = .txb ∧ x < f.length then f[x]'(h.2) else s.readByte c x := by
  cases c <;> simp [State.readByte, Memory.lookup_insertBytes]
  split <;> simp

@[simp] theorem State.readBytes_length (s : State) (b : Buffer) (a n : Nat) : (s.readBytes b a n).length = n := by
  induction n generalizing a with
  | zero => rfl
  | succ n ih => simp [State.readBytes, ih]

theorem State.readBytes_getElem (s : State) (b : Buffer) (a n i : Nat) (h : i < (s.readBytes b a n).length) :
    (s.readBytes b a n)[i] = s.readByte b (a + i) := by
  induction n generalizing a i with
  | zero => simp [State.readBytes] at h
  | succ n ih =>
    cases i with
    | zero => rfl
    | succ i =>
      have := ih (a + 1) i (by simpa [State.readBytes] using h)
      simp [State.readBytes, this, Nat.add_assoc, Nat.add_comm 1]

theorem State.readBytes_add (s : State) (b : Buffer) (a m n : Nat) :
    s.readBytes b a (m + n) = s.readBytes b a m ++ s.readBytes b (a + m) n := by
  induction m generalizing a with
  | zero => simp [State.readBytes]
  | succ m ih => simp [Nat.succ_add, State.readBytes, ih, Nat.add_assoc]

/-- Bytes that agree one by one read as the same sequence. -/
theorem State.readBytes_congr {s t : State} {b c : Buffer} {a a' n : Nat}
    (h : ∀ i < n, t.readByte c (a' + i) = s.readByte b (a + i)) : t.readBytes c a' n = s.readBytes b a n := by
  apply List.ext_getElem (by simp)
  intro i h1 h2
  simp only [State.readBytes_getElem]
  exact h i (by simpa using h1)

@[simp] theorem bytesBe16_length (v : Half) : (bytesBe16 v).length = 2 := rfl

@[simp] theorem bytesBe32_length (v : Word) : (bytesBe32 v).length = 4 := rfl

/-- The two bytes of a 16-bit field read back as the field (R73). -/
theorem append_bytesBe16 (v : Half) : (v.extractLsb' 8 8 ++ v.extractLsb' 0 8 : Half) = v := by
  apply BitVec.eq_of_getLsbD_eq
  intro i hi
  simp only [BitVec.getLsbD_append, BitVec.getLsbD_extractLsb']
  by_cases h : i < 8
  · simp [h]
  · simp [h, show i - 8 < 8 by omega, show 8 + (i - 8) = i by omega]

end Sys2Proof.Machine
end

