-- ==== Sys2Proof/Laws/Ops.lean ====
section
/-! SUPPORT. Laws/Ops.lean: for each shared operation, everything it can do, said once. -/

namespace Sys2Proof.Machine

variable {s t : State}

/-- `done` ends with `OK` and the two results. -/
theorem done_next {x y : Word} (h : s.done x y = .next t) : t = s.ended 0 x y := by
  simpa [State.done] using h.symm

/-- `fail E` ends with the failure's code and the sentinel. -/
theorem failed_next {e : Failure} (h : s.failed e = .next t) : t = s.fail e := by
  simpa [State.failed] using h.symm

/-- The slot a valid index names. -/
theorem slot_eq_some {p : PmuIndex} {x : PmuSlot} :
    s.slot p = some x ↔ 1 ≤ p.toNat ∧ p.toNat ≤ s.g.numPmu.toNat ∧ s.pmus[p.toNat - 1]? = some x := by
  unfold State.slot; split <;> simp_all

/-- A slot that an index names is in the table. -/
theorem slot_mem {p : PmuIndex} {x : PmuSlot} (h : s.slot p = some x) : x ∈ s.pmus :=
  List.mem_of_getElem? (slot_eq_some.1 h).2.2

/-- With the table as long as `num_pmu` says, an index names a slot exactly when it lies in range (R40). -/
theorem slot_isSome_iff (h : s.pmus.length = s.g.numPmu.toNat) (p : PmuIndex) :
    (s.slot p).isSome = true ↔ 1 ≤ p.toNat ∧ p.toNat ≤ s.g.numPmu.toNat := by
  unfold State.slot
  split
  · rename_i hp; simp [hp]; omega
  · rename_i hp; simp [hp]

/-- An index outside the table names no slot (R11). -/
theorem slot_eq_none {p : PmuIndex} (h : p.toNat = 0 ∨ s.g.numPmu.toNat < p.toNat) : s.slot p = none := by
  unfold State.slot; rw [if_neg (by omega)]

/-- The index check of R200a: it fails, or the body runs on the slot. -/
theorem onSlot_next {p : PmuIndex} {body : PmuSlot → Result} (h : onSlot s p body = .next t) :
    (s.slot p = none ∧ t = s.fail .indexOutOfRange) ∨ ∃ x, s.slot p = some x ∧ body x = .next t := by
  unfold onSlot at h
  split at h
  · exact .inl ⟨‹_›, failed_next h⟩
  · exact .inr ⟨_, ‹_›, h⟩

theorem getSlot_next {p : PmuIndex} {field : PmuSlot → Word} (h : getSlot s p field = .next t) :
    (s.slot p = none ∧ t = s.fail .indexOutOfRange) ∨ ∃ x, s.slot p = some x ∧ t = s.ended 0 (field x) 0 := by
  rcases onSlot_next h with h | ⟨x, hx, h⟩
  · exact .inl h
  · exact .inr ⟨x, hx, done_next h⟩

theorem setSlot_next {p : PmuIndex} {update : PmuSlot → PmuSlot} (h : setSlot s p update = .next t) :
    (s.slot p = none ∧ t = s.fail .indexOutOfRange) ∨
      ∃ x, s.slot p = some x ∧ t = (s.withSlot p (update x)).ended 0 0 0 := by
  rcases onSlot_next h with h | ⟨x, hx, h⟩
  · exact .inl h
  · exact .inr ⟨x, hx, done_next h⟩

/-- The resize law (R239). -/
theorem resizeEntries_next {arr : EntryArray} {p : PmuIndex} (h : resizeEntries s arr p = .next t) :
    (s.slot p = none ∧ t = s.fail .indexOutOfRange) ∨ ∃ x, s.slot p = some x ∧
      ((arr.capacity s.params < s.a0.toNat ∧ t = s.fail .allocationFailure) ∨
       (s.a0.toNat ≤ arr.capacity s.params ∧ s.a0.toNat = (arr.count x).toNat ∧ t = s.ended 0 0 0) ∨
       (s.a0.toNat ≤ arr.capacity s.params ∧ s.a0.toNat ≠ (arr.count x).toNat ∧
         t = (s.withSlot p (arr.resized x (s.a0.setWidth 16) (List.replicate s.a0.toNat 0))).ended 0 0 0)) := by
  rcases onSlot_next h with h | ⟨x, hx, h⟩
  · exact .inl h
  · refine .inr ⟨x, hx, ?_⟩
    split at h
    · exact .inl ⟨‹_›, failed_next h⟩
    · split at h
      · exact .inr (.inl ⟨by omega, ‹_›, done_next h⟩)
      · exact .inr (.inr ⟨by omega, ‹_›, done_next h⟩)

/-- The scope law (R259). -/
theorem setEntries_next {arr : EntryArray} {p : PmuIndex} {scope : Scope} {upd : Word → Word}
    (h : setEntries s arr p scope upd = .next t) :
    (∃ e, t = s.fail e) ∨
    (scope = .one ∧ ∃ x, s.slot p = some x ∧ entryIndexOk s.a0 (arr.count x) = true ∧
      t = (s.withSlot p (arr.withEntries x
        ((arr.entries x).set (s.a0.toNat - 1) (upd (entryAt (arr.entries x) s.a0))))).ended 0 0 0) ∨
    (scope = .all ∧ ∃ x, s.slot p = some x ∧ t = (s.withSlot p (arr.updateAll upd x)).ended 0 0 0) ∨
    (scope = .allPmu ∧ t = (s.withPmus (s.pmus.map (arr.updateAll upd))).ended 0 0 0) := by
  cases scope with
  | one =>
    rcases onSlot_next h with h | ⟨x, hx, h⟩
    · exact .inl ⟨_, h.2⟩
    · split at h
      · exact .inl ⟨_, failed_next h⟩
      · exact .inr (.inl ⟨rfl, x, hx, by simpa using ‹¬ _ = false›, done_next h⟩)
  | all =>
    rcases onSlot_next h with h | ⟨x, hx, h⟩
    · exact .inl ⟨_, h.2⟩
    · exact .inr (.inr (.inl ⟨rfl, x, hx, done_next h⟩))
  | allPmu => exact .inr (.inr (.inr ⟨rfl, done_next h⟩))
  | reserved => exact .inl ⟨_, failed_next h⟩

/-- An entry getter. -/
theorem getEntry_next {arr : EntryArray} {p : PmuIndex} {result : Word → Word}
    (h : getEntry s arr p result = .next t) :
    t = s.fail .indexOutOfRange ∨ ∃ x, s.slot p = some x ∧ entryIndexOk s.a0 (arr.count x) = true ∧
      t = s.ended 0 (result (entryAt (arr.entries x) s.a0)) 0 := by
  rcases onSlot_next h with h | ⟨x, hx, h⟩
  · exact .inl h.2
  · split at h
    · exact .inl (failed_next h)
    · exact .inr ⟨x, hx, by simpa using ‹¬ _ = false›, done_next h⟩

/-- The checks of R174, then the body. -/
theorem extraction_next {need : Nat} {body : Result} (h : extraction s need body = .next t) :
    t = s.fail .overrun ∨ t = s.fail .malformedFrame ∨
      (s.a0.toNat + s.a1.toNat ≤ s.params.bufBytes ∧ need ≤ s.a1.toNat ∧ body = .next t) := by
  unfold extraction State.presentedFits at h
  split at h
  · exact .inl (failed_next h)
  · split at h
    · exact .inr (.inl (failed_next h))
    · exact .inr (.inr ⟨by simp_all, by omega, h⟩)

/-- The accessor law (R309) without an entry index. -/
theorem accessSample_next {p : PmuIndex} {valid : Bool} {result : SampleSlot → Result}
    (h : accessSample s p valid result = .next t) :
    (∃ e, t = s.fail e) ∨ ∃ x, s.d.bound = true ∧ s.sampleSlot p = some x ∧ valid = true ∧ result x = .next t := by
  unfold accessSample at h
  split at h
  · exact .inl ⟨_, failed_next h⟩
  · split at h
    · exact .inl ⟨_, failed_next h⟩
    · split at h
      · exact .inl ⟨_, failed_next h⟩
      · exact .inr ⟨_, by simp_all, ‹_›, by simp_all, h⟩

/-- The accessor law (R309) with an entry index. -/
theorem accessEntry_next {α : Type} {p : PmuIndex} {count : SampleSlot → Half} {entries : SampleSlot → List α}
    {result : α → Result} (h : accessEntry s p count entries result = .next t) :
    (∃ e, t = s.fail e) ∨ ∃ x v, s.d.bound = true ∧ s.sampleSlot p = some x ∧
      entryIndexOk s.a0 (count x) = true ∧ s.d.sampleValid = true ∧ (entries x)[s.a0.toNat - 1]? = some v ∧
      result v = .next t := by
  unfold accessEntry at h
  split at h
  · exact .inl ⟨_, failed_next h⟩
  · split at h
    · exact .inl ⟨_, failed_next h⟩
    · split at h
      · exact .inl ⟨_, failed_next h⟩
      · split at h
        · exact .inl ⟨_, failed_next h⟩
        · split at h
          · exact .inl ⟨_, failed_next h⟩
          · exact .inr ⟨_, _, by simp_all, ‹_›, by simp_all, by simp_all, ‹_›, h⟩

/-- The end of a successful encoder. -/
theorem frameDone_next {f : Bytes} (h : s.frameDone f = .next t) :
    t = (s.emitFrame f).ended 0 (BitVec.ofNat 32 f.length) 0 := done_next h

/-- The common header has the 14 bytes of R100. -/
@[simp] theorem commonHeader_length (g : Global) (sync : Half) (n : Nat) : (commonHeader g sync n).length = 14 := rfl

/-- A trailer adds two bytes. -/
@[simp] theorem withTrailer_length (k : Nat) (body : Bytes) : (withTrailer k body).length = body.length + 2 := by
  simp [withTrailer]

/-! ### The sequential reader of DATA.DECODE -/

theorem takeValue_cur (s : State) (b : Buffer) (wide : Bool) (cur : Nat) :
    (takeValue s b wide cur).2 = cur + widthOf wide := by cases wide <;> rfl

theorem takeValue_fits (s : State) (b : Buffer) (wide : Bool) (cur : Nat) :
    (takeValue s b wide cur).1.fits wide = true := by cases wide <;> rfl

theorem takePair_cur (s : State) (b : Buffer) (wide : Bool) (cur : Nat) :
    (takePair s b wide cur).2 = cur + 2 * widthOf wide := by simp [takePair, takeValue_cur]; omega

/-- Items of one size advance `CUR` by their count times that size. -/
theorem takeMany_cur {α : Type} (one : Nat → α × Nat) (size : Nat) (h : ∀ c, (one c).2 = c + size) (n cur : Nat) :
    (takeMany one n cur).2 = cur + n * size := by
  induction n generalizing cur with
  | zero => simp [takeMany]
  | succ n ih => simp [takeMany, ih, h, Nat.succ_mul]; omega

@[simp] theorem takeMany_length {α : Type} (one : Nat → α × Nat) (n cur : Nat) :
    (takeMany one n cur).1.length = n := by
  induction n generalizing cur with
  | zero => rfl
  | succ n ih => simp [takeMany, ih]

theorem takeMany_forall {α : Type} {one : Nat → α × Nat} {P : α → Prop} (h : ∀ c, P (one c).1) (n cur : Nat) :
    ∀ v ∈ (takeMany one n cur).1, P v := by
  induction n generalizing cur with
  | zero => simp [takeMany]
  | succ n ih => intro v hv; rcases List.mem_cons.1 hv with rfl | hv; exacts [h _, ih _ v hv]

/-- One block advances `CUR` by `DB(p)`, or by `SB(p)` without STAT (R302, R305). -/
theorem takeBlock_cur (s : State) (b : Buffer) (ich : Bool) (x : SampleSlot) (cur : Nat) :
    (takeBlock s b ich x cur).2 = cur + if ich then blockBytes x else sampleBytes x := by
  have h1 := takeMany_cur (takePair s b x.snapPhw) _ (takePair_cur s b x.snapPhw)
  have h2 := takeMany_cur (takeValue s b x.snapAnw) _ (takeValue_cur s b x.snapAnw)
  have h3 := takeMany_cur (takeHalf s b) 2 (fun _ => rfl)
  have e1 := Nat.mul_comm x.snapNph.toNat (2 * widthOf x.snapPhw)
  have e2 := Nat.mul_comm x.snapNan.toNat (widthOf x.snapAnw)
  have e3 := Nat.mul_comm x.snapNst.toNat 2
  cases ich <;>
    simp only [takeBlock, h1, h2, h3, takeValue_cur, blockBytes, sampleBytes, takeHalf, e1, e2, e3, if_true, if_false,
      Bool.false_eq_true] <;> omega

/-- The blocks advance `CUR` by the sum of their sizes (R302, R305). -/
theorem takeBlocks_cur (s : State) (b : Buffer) (ich : Bool) (xs : List SampleSlot) (cur : Nat) :
    (takeBlocks s b ich xs cur).2 = cur + (xs.map fun x => if ich then blockBytes x else sampleBytes x).sum := by
  induction xs generalizing cur with
  | nil => simp [takeBlocks]
  | cons x xs ih => simp only [takeBlocks, ih, takeBlock_cur, List.map_cons, List.sum_cons]; omega

@[simp] theorem takeBlocks_length (s : State) (b : Buffer) (ich : Bool) (xs : List SampleSlot) (cur : Nat) :
    (takeBlocks s b ich xs cur).1.length = xs.length := by
  induction xs generalizing cur with
  | nil => rfl
  | cons x xs ih => simp [takeBlocks, ih]

@[simp] theorem bindSlots_length (bind p : Nat) (xs : List PmuSlot) : (bindSlots bind p xs).length = xs.length := by
  induction xs generalizing p with
  | nil => rfl
  | cons x xs ih => simp [bindSlots, ih]

end Sys2Proof.Machine
end

