-- ==== Sys2Proof/Laws/PerInstr.lean ====
section
/-! SUPPORT. Laws/PerInstr.lean: the family FixedBits: an instruction's code bears the fixed bits of its row in the opcode
table, in a word of the row's width. -/

namespace Sys2Proof.Laws

/-- A row of the opcode table: its width, and the mask and match of its fixed bits. -/
structure TableRow where
  nbits : Nat
  mask : Nat
  fixed : Nat
deriving DecidableEq, Repr

/-- The row of each instruction, from the table. -/
def tableRow : Instr → TableRow
  | .crcCompute _ _ => ⟨32, 0xFF000000, 0x10000000⟩
  | .crcGet _ => ⟨32, 0xFF000000, 0x11000000⟩
  | .crcCheck _ _ => ⟨32, 0xFF000000, 0x12000000⟩
  | .hdrType _ => ⟨32, 0xFF000000, 0x20000000⟩
  | .hdrSize _ => ⟨32, 0xFF000000, 0x21000000⟩
  | .hdrIdcode _ _ => ⟨32, 0xFF000000, 0x22000000⟩
  | .hdrSoc _ _ => ⟨32, 0xFF000000, 0x23000000⟩
  | .hdrFrac _ _ _ => ⟨32, 0xFF000000, 0x24000000⟩
  | .hdrStamp => ⟨32, 0xFF000000, 0x25000000⟩
  | .cfgSetPmuCount => ⟨32, 0xFF000000, 0x30000000⟩
  | .cfgGetPmuCount => ⟨32, 0xFF000000, 0x31000000⟩
  | .cfgSetGid => ⟨32, 0xFF000000, 0x32000000⟩
  | .cfgGetGid => ⟨32, 0xFF000000, 0x33000000⟩
  | .cfgSetTimeBase => ⟨32, 0xFF000000, 0x34000000⟩
  | .cfgGetTimeBase => ⟨32, 0xFF000000, 0x35000000⟩
  | .cfgSetDataRate => ⟨32, 0xFF000000, 0x36000000⟩
  | .cfgGetDataRate => ⟨32, 0xFF000000, 0x37000000⟩
  | .cfgSetSoc => ⟨32, 0xFF000000, 0x38000000⟩
  | .cfgGetSoc => ⟨32, 0xFF000000, 0x39000000⟩
  | .cfgSetFrac => ⟨32, 0xFF000000, 0x3A000000⟩
  | .cfgGetFrac => ⟨32, 0xFF000000, 0x3B000000⟩
  | .cfgSetPid _ => ⟨32, 0xFF000000, 0x40000000⟩
  | .cfgGetPid _ => ⟨32, 0xFF000000, 0x41000000⟩
  | .cfgSetStn _ => ⟨32, 0xFF000000, 0x42000000⟩
  | .cfgGetStn _ => ⟨32, 0xFF000000, 0x43000000⟩
  | .cfgSetFnom _ => ⟨32, 0xFF000000, 0x44000000⟩
  | .cfgGetFnom _ => ⟨32, 0xFF000000, 0x45000000⟩
  | .cfgSetCcc _ => ⟨32, 0xFF000000, 0x46000000⟩
  | .cfgGetCcc _ => ⟨32, 0xFF000000, 0x47000000⟩
  | .cfgIncCcc _ => ⟨32, 0xFF000000, 0x48000000⟩
  | .cfgSetNph _ => ⟨32, 0xFF000000, 0x50000000⟩
  | .cfgGetNph _ => ⟨32, 0xFF000000, 0x51000000⟩
  | .cfgSetNan _ => ⟨32, 0xFF000000, 0x52000000⟩
  | .cfgGetNan _ => ⟨32, 0xFF000000, 0x53000000⟩
  | .cfgSetNst _ => ⟨32, 0xFF000000, 0x54000000⟩
  | .cfgGetNst _ => ⟨32, 0xFF000000, 0x55000000⟩
  | .cfgSetNames _ => ⟨32, 0xFF000000, 0x56000000⟩
  | .cfgSetFmtCoord _ => ⟨32, 0xFF000000, 0x58000000⟩
  | .cfgGetFmtCoord _ => ⟨32, 0xFF000000, 0x59000000⟩
  | .cfgSetFmtPhw _ => ⟨32, 0xFF000000, 0x5A000000⟩
  | .cfgGetFmtPhw _ => ⟨32, 0xFF000000, 0x5B000000⟩
  | .cfgSetFmtAnw _ => ⟨32, 0xFF000000, 0x5C000000⟩
  | .cfgGetFmtAnw _ => ⟨32, 0xFF000000, 0x5D000000⟩
  | .cfgSetFmtFqw _ => ⟨32, 0xFF000000, 0x5E000000⟩
  | .cfgGetFmtFqw _ => ⟨32, 0xFF000000, 0x5F000000⟩
  | .cfgSetPhf _ _ => ⟨32, 0xFF000000, 0x60000000⟩
  | .cfgSetPht _ _ => ⟨32, 0xFF000000, 0x61000000⟩
  | .cfgGetPhf _ => ⟨32, 0xFF000000, 0x62000000⟩
  | .cfgGetPht _ => ⟨32, 0xFF000000, 0x63000000⟩
  | .cfgSetAnf _ _ => ⟨32, 0xFF000000, 0x64000000⟩
  | .cfgSetAnt _ _ => ⟨32, 0xFF000000, 0x65000000⟩
  | .cfgGetAnf _ => ⟨32, 0xFF000000, 0x66000000⟩
  | .cfgGetAnt _ => ⟨32, 0xFF000000, 0x67000000⟩
  | .cfgSetMskn _ _ => ⟨32, 0xFF000000, 0x68000000⟩
  | .cfgSetMskv _ _ => ⟨32, 0xFF000000, 0x69000000⟩
  | .cfgGetMskn _ => ⟨32, 0xFF000000, 0x6A000000⟩
  | .cfgGetMskv _ => ⟨32, 0xFF000000, 0x6B000000⟩
  | .cfgEncode => ⟨32, 0xFF000000, 0x70000000⟩
  | .hdrfBuild _ => ⟨32, 0xFF000000, 0x71000000⟩
  | .cmdClassify _ _ => ⟨32, 0xFF000000, 0x80000000⟩
  | .dataBind => ⟨32, 0xFF000000, 0x90000000⟩
  | .dataDecode _ _ => ⟨32, 0xFF000000, 0x91000000⟩
  | .dataEncode => ⟨32, 0xFF000000, 0x92000000⟩
  | .dataSize _ => ⟨32, 0xFF000000, 0x93000000⟩
  | .dataGetPhasor _ => ⟨32, 0xFF000000, 0x94000000⟩
  | .dataGetAnalog _ => ⟨32, 0xFF000000, 0x95000000⟩
  | .dataGetFreq _ => ⟨32, 0xFF000000, 0x96000000⟩
  | .dataGetRocof _ => ⟨32, 0xFF000000, 0x97000000⟩
  | .dataGetStat _ => ⟨32, 0xFF000000, 0x98000000⟩
  | .dataGetDig _ => ⟨32, 0xFF000000, 0x99000000⟩
  | .syncData => ⟨16, 0xFFFF, 0xAA01⟩
  | .syncHeader => ⟨16, 0xFFFF, 0xAA11⟩
  | .syncConfig1 => ⟨16, 0xFFFF, 0xAA21⟩
  | .syncConfig2 => ⟨16, 0xFFFF, 0xAA31⟩
  | .syncCommand => ⟨16, 0xFFFF, 0xAA41⟩
  | .syncConfig3 => ⟨16, 0xFFFF, 0xAA52⟩
  | .cmdwDataOff => ⟨16, 0xFFFF, 0x0001⟩
  | .cmdwDataOn => ⟨16, 0xFFFF, 0x0002⟩
  | .cmdwSendHdr => ⟨16, 0xFFFF, 0x0003⟩
  | .cmdwSendConfig1 => ⟨16, 0xFFFF, 0x0004⟩
  | .cmdwSendConfig2 => ⟨16, 0xFFFF, 0x0005⟩
  | .cmdwSendConfig3 => ⟨16, 0xFFFF, 0x0006⟩
  | .cmdwExtendedFrame => ⟨16, 0xFFFF, 0x0008⟩
  | .cmdwUser _ => ⟨16, 0x0F00, 0x0F00⟩

/-- The width and the bits of a code. -/
def codeBits : Code → Nat × Nat
  | .cmd w => (32, w.toNat)
  | .wire w => (16, w.toNat)

/-- A well-formed instruction's code has its row's width and its row's fixed bits. -/
def FixedBits.Statement (i : Instr) : Prop :=
  i.wf = true → (codeBits (encode i)).1 = (tableRow i).nbits ∧
    (codeBits (encode i)).2 &&& (tableRow i).mask = (tableRow i).fixed

/-- An operation word's fixed bits are its `OP` byte. -/
theorem opw_fixed (op flg : Byte) (p : PmuIndex) :
    (codeBits (opw op flg p)).2 &&& 0xFF000000 = op.toNat * 2 ^ 24 := by
  have h : ((op ++ flg ++ p : Word) &&& 0xFF000000#32) = op.setWidth 32 <<< 24 := by
    apply BitVec.eq_of_getLsbD_eq
    intro i hi
    have hm : (0xFF000000#32).getLsbD i = decide (24 ≤ i) := by
      have : ∀ j : Fin 32, (0xFF000000#32).getLsbD j.val = decide (24 ≤ j.val) := by decide
      exact this ⟨i, hi⟩
    simp only [BitVec.getLsbD_and, BitVec.getLsbD_append, BitVec.getLsbD_shiftLeft, BitVec.getLsbD_setWidth, hm]
    by_cases h24 : 24 ≤ i
    · simp [h24, show ¬ i < 16 by omega, show ¬ (i - 16 < 8) by omega, show ¬ i < 24 by omega,
        show i - 16 - 8 = i - 24 by omega, hi, show i - 24 < 32 by omega]
    · simp [h24, show i < 24 by omega]
  have hn := congrArg BitVec.toNat h
  simp only [BitVec.toNat_and, BitVec.toNat_shiftLeft, BitVec.toNat_setWidth, BitVec.toNat_ofNat] at hn
  have hop := op.isLt
  have e : op.toNat % 2 ^ 32 = op.toNat := Nat.mod_eq_of_lt (by omega)
  have e2 : op.toNat <<< 24 % 2 ^ 32 = op.toNat * 2 ^ 24 := by
    rw [Nat.shiftLeft_eq]; exact Nat.mod_eq_of_lt (by omega)
  rw [e, e2] at hn
  simpa [opw, codeBits] using hn

theorem FixedBits.crcCompute (hdr : Bool) (src : Source) : FixedBits.Statement (.crcCompute hdr src) := fun _ => ⟨rfl, opw_fixed _ _ _⟩
theorem FixedBits.crcGet (src : Source) : FixedBits.Statement (.crcGet src) := fun _ => ⟨rfl, opw_fixed _ _ _⟩
theorem FixedBits.crcCheck (hdr : Bool) (src : Source) : FixedBits.Statement (.crcCheck hdr src) := fun _ => ⟨rfl, opw_fixed _ _ _⟩
theorem FixedBits.hdrType (src : Source) : FixedBits.Statement (.hdrType src) := fun _ => ⟨rfl, opw_fixed _ _ _⟩
theorem FixedBits.hdrSize (src : Source) : FixedBits.Statement (.hdrSize src) := fun _ => ⟨rfl, opw_fixed _ _ _⟩
theorem FixedBits.hdrIdcode (strip : Bool) (src : Source) : FixedBits.Statement (.hdrIdcode strip src) := fun _ => ⟨rfl, opw_fixed _ _ _⟩
theorem FixedBits.hdrSoc (strip : Bool) (src : Source) : FixedBits.Statement (.hdrSoc strip src) := fun _ => ⟨rfl, opw_fixed _ _ _⟩
theorem FixedBits.hdrFrac (strip : Bool) (rescale : Bool) (src : Source) : FixedBits.Statement (.hdrFrac strip rescale src) := fun _ => ⟨rfl, opw_fixed _ _ _⟩
theorem FixedBits.hdrStamp : FixedBits.Statement .hdrStamp := fun _ => ⟨rfl, opw_fixed _ _ _⟩
theorem FixedBits.cfgSetPmuCount : FixedBits.Statement .cfgSetPmuCount := fun _ => ⟨rfl, opw_fixed _ _ _⟩
theorem FixedBits.cfgGetPmuCount : FixedBits.Statement .cfgGetPmuCount := fun _ => ⟨rfl, opw_fixed _ _ _⟩
theorem FixedBits.cfgSetGid : FixedBits.Statement .cfgSetGid := fun _ => ⟨rfl, opw_fixed _ _ _⟩
theorem FixedBits.cfgGetGid : FixedBits.Statement .cfgGetGid := fun _ => ⟨rfl, opw_fixed _ _ _⟩
theorem FixedBits.cfgSetTimeBase : FixedBits.Statement .cfgSetTimeBase := fun _ => ⟨rfl, opw_fixed _ _ _⟩
theorem FixedBits.cfgGetTimeBase : FixedBits.Statement .cfgGetTimeBase := fun _ => ⟨rfl, opw_fixed _ _ _⟩
theorem FixedBits.cfgSetDataRate : FixedBits.Statement .cfgSetDataRate := fun _ => ⟨rfl, opw_fixed _ _ _⟩
theorem FixedBits.cfgGetDataRate : FixedBits.Statement .cfgGetDataRate := fun _ => ⟨rfl, opw_fixed _ _ _⟩
theorem FixedBits.cfgSetSoc : FixedBits.Statement .cfgSetSoc := fun _ => ⟨rfl, opw_fixed _ _ _⟩
theorem FixedBits.cfgGetSoc : FixedBits.Statement .cfgGetSoc := fun _ => ⟨rfl, opw_fixed _ _ _⟩
theorem FixedBits.cfgSetFrac : FixedBits.Statement .cfgSetFrac := fun _ => ⟨rfl, opw_fixed _ _ _⟩
theorem FixedBits.cfgGetFrac : FixedBits.Statement .cfgGetFrac := fun _ => ⟨rfl, opw_fixed _ _ _⟩
theorem FixedBits.cfgSetPid (p : PmuIndex) : FixedBits.Statement (.cfgSetPid p) := fun _ => ⟨rfl, opw_fixed _ _ _⟩
theorem FixedBits.cfgGetPid (p : PmuIndex) : FixedBits.Statement (.cfgGetPid p) := fun _ => ⟨rfl, opw_fixed _ _ _⟩
theorem FixedBits.cfgSetStn (p : PmuIndex) : FixedBits.Statement (.cfgSetStn p) := fun _ => ⟨rfl, opw_fixed _ _ _⟩
theorem FixedBits.cfgGetStn (p : PmuIndex) : FixedBits.Statement (.cfgGetStn p) := fun _ => ⟨rfl, opw_fixed _ _ _⟩
theorem FixedBits.cfgSetFnom (p : PmuIndex) : FixedBits.Statement (.cfgSetFnom p) := fun _ => ⟨rfl, opw_fixed _ _ _⟩
theorem FixedBits.cfgGetFnom (p : PmuIndex) : FixedBits.Statement (.cfgGetFnom p) := fun _ => ⟨rfl, opw_fixed _ _ _⟩
theorem FixedBits.cfgSetCcc (p : PmuIndex) : FixedBits.Statement (.cfgSetCcc p) := fun _ => ⟨rfl, opw_fixed _ _ _⟩
theorem FixedBits.cfgGetCcc (p : PmuIndex) : FixedBits.Statement (.cfgGetCcc p) := fun _ => ⟨rfl, opw_fixed _ _ _⟩
theorem FixedBits.cfgIncCcc (p : PmuIndex) : FixedBits.Statement (.cfgIncCcc p) := fun _ => ⟨rfl, opw_fixed _ _ _⟩
theorem FixedBits.cfgSetNph (p : PmuIndex) : FixedBits.Statement (.cfgSetNph p) := fun _ => ⟨rfl, opw_fixed _ _ _⟩
theorem FixedBits.cfgGetNph (p : PmuIndex) : FixedBits.Statement (.cfgGetNph p) := fun _ => ⟨rfl, opw_fixed _ _ _⟩
theorem FixedBits.cfgSetNan (p : PmuIndex) : FixedBits.Statement (.cfgSetNan p) := fun _ => ⟨rfl, opw_fixed _ _ _⟩
theorem FixedBits.cfgGetNan (p : PmuIndex) : FixedBits.Statement (.cfgGetNan p) := fun _ => ⟨rfl, opw_fixed _ _ _⟩
theorem FixedBits.cfgSetNst (p : PmuIndex) : FixedBits.Statement (.cfgSetNst p) := fun _ => ⟨rfl, opw_fixed _ _ _⟩
theorem FixedBits.cfgGetNst (p : PmuIndex) : FixedBits.Statement (.cfgGetNst p) := fun _ => ⟨rfl, opw_fixed _ _ _⟩
theorem FixedBits.cfgSetNames (p : PmuIndex) : FixedBits.Statement (.cfgSetNames p) := fun _ => ⟨rfl, opw_fixed _ _ _⟩
theorem FixedBits.cfgSetFmtCoord (p : PmuIndex) : FixedBits.Statement (.cfgSetFmtCoord p) := fun _ => ⟨rfl, opw_fixed _ _ _⟩
theorem FixedBits.cfgGetFmtCoord (p : PmuIndex) : FixedBits.Statement (.cfgGetFmtCoord p) := fun _ => ⟨rfl, opw_fixed _ _ _⟩
theorem FixedBits.cfgSetFmtPhw (p : PmuIndex) : FixedBits.Statement (.cfgSetFmtPhw p) := fun _ => ⟨rfl, opw_fixed _ _ _⟩
theorem FixedBits.cfgGetFmtPhw (p : PmuIndex) : FixedBits.Statement (.cfgGetFmtPhw p) := fun _ => ⟨rfl, opw_fixed _ _ _⟩
theorem FixedBits.cfgSetFmtAnw (p : PmuIndex) : FixedBits.Statement (.cfgSetFmtAnw p) := fun _ => ⟨rfl, opw_fixed _ _ _⟩
theorem FixedBits.cfgGetFmtAnw (p : PmuIndex) : FixedBits.Statement (.cfgGetFmtAnw p) := fun _ => ⟨rfl, opw_fixed _ _ _⟩
theorem FixedBits.cfgSetFmtFqw (p : PmuIndex) : FixedBits.Statement (.cfgSetFmtFqw p) := fun _ => ⟨rfl, opw_fixed _ _ _⟩
theorem FixedBits.cfgGetFmtFqw (p : PmuIndex) : FixedBits.Statement (.cfgGetFmtFqw p) := fun _ => ⟨rfl, opw_fixed _ _ _⟩
theorem FixedBits.cfgSetPhf (p : PmuIndex) (scope : Scope) : FixedBits.Statement (.cfgSetPhf p scope) := fun _ => ⟨rfl, opw_fixed _ _ _⟩
theorem FixedBits.cfgSetPht (p : PmuIndex) (scope : Scope) : FixedBits.Statement (.cfgSetPht p scope) := fun _ => ⟨rfl, opw_fixed _ _ _⟩
theorem FixedBits.cfgGetPhf (p : PmuIndex) : FixedBits.Statement (.cfgGetPhf p) := fun _ => ⟨rfl, opw_fixed _ _ _⟩
theorem FixedBits.cfgGetPht (p : PmuIndex) : FixedBits.Statement (.cfgGetPht p) := fun _ => ⟨rfl, opw_fixed _ _ _⟩
theorem FixedBits.cfgSetAnf (p : PmuIndex) (scope : Scope) : FixedBits.Statement (.cfgSetAnf p scope) := fun _ => ⟨rfl, opw_fixed _ _ _⟩
theorem FixedBits.cfgSetAnt (p : PmuIndex) (scope : Scope) : FixedBits.Statement (.cfgSetAnt p scope) := fun _ => ⟨rfl, opw_fixed _ _ _⟩
theorem FixedBits.cfgGetAnf (p : PmuIndex) : FixedBits.Statement (.cfgGetAnf p) := fun _ => ⟨rfl, opw_fixed _ _ _⟩
theorem FixedBits.cfgGetAnt (p : PmuIndex) : FixedBits.Statement (.cfgGetAnt p) := fun _ => ⟨rfl, opw_fixed _ _ _⟩
theorem FixedBits.cfgSetMskn (p : PmuIndex) (scope : Scope) : FixedBits.Statement (.cfgSetMskn p scope) := fun _ => ⟨rfl, opw_fixed _ _ _⟩
theorem FixedBits.cfgSetMskv (p : PmuIndex) (scope : Scope) : FixedBits.Statement (.cfgSetMskv p scope) := fun _ => ⟨rfl, opw_fixed _ _ _⟩
theorem FixedBits.cfgGetMskn (p : PmuIndex) : FixedBits.Statement (.cfgGetMskn p) := fun _ => ⟨rfl, opw_fixed _ _ _⟩
theorem FixedBits.cfgGetMskv (p : PmuIndex) : FixedBits.Statement (.cfgGetMskv p) := fun _ => ⟨rfl, opw_fixed _ _ _⟩
theorem FixedBits.cfgEncode : FixedBits.Statement .cfgEncode := fun _ => ⟨rfl, opw_fixed _ _ _⟩
theorem FixedBits.hdrfBuild (present : Bool) : FixedBits.Statement (.hdrfBuild present) := fun _ => ⟨rfl, opw_fixed _ _ _⟩
theorem FixedBits.cmdClassify (frame : Bool) (src : Source) : FixedBits.Statement (.cmdClassify frame src) := fun _ => ⟨rfl, opw_fixed _ _ _⟩
theorem FixedBits.dataBind : FixedBits.Statement .dataBind := fun _ => ⟨rfl, opw_fixed _ _ _⟩
theorem FixedBits.dataDecode (ich : Bool) (src : Source) : FixedBits.Statement (.dataDecode ich src) := fun _ => ⟨rfl, opw_fixed _ _ _⟩
theorem FixedBits.dataEncode : FixedBits.Statement .dataEncode := fun _ => ⟨rfl, opw_fixed _ _ _⟩
theorem FixedBits.dataSize (p : PmuIndex) : FixedBits.Statement (.dataSize p) := fun _ => ⟨rfl, opw_fixed _ _ _⟩
theorem FixedBits.dataGetPhasor (p : PmuIndex) : FixedBits.Statement (.dataGetPhasor p) := fun _ => ⟨rfl, opw_fixed _ _ _⟩
theorem FixedBits.dataGetAnalog (p : PmuIndex) : FixedBits.Statement (.dataGetAnalog p) := fun _ => ⟨rfl, opw_fixed _ _ _⟩
theorem FixedBits.dataGetFreq (p : PmuIndex) : FixedBits.Statement (.dataGetFreq p) := fun _ => ⟨rfl, opw_fixed _ _ _⟩
theorem FixedBits.dataGetRocof (p : PmuIndex) : FixedBits.Statement (.dataGetRocof p) := fun _ => ⟨rfl, opw_fixed _ _ _⟩
theorem FixedBits.dataGetStat (p : PmuIndex) : FixedBits.Statement (.dataGetStat p) := fun _ => ⟨rfl, opw_fixed _ _ _⟩
theorem FixedBits.dataGetDig (p : PmuIndex) : FixedBits.Statement (.dataGetDig p) := fun _ => ⟨rfl, opw_fixed _ _ _⟩
theorem FixedBits.syncData : FixedBits.Statement .syncData := fun _ => ⟨rfl, by decide⟩
theorem FixedBits.syncHeader : FixedBits.Statement .syncHeader := fun _ => ⟨rfl, by decide⟩
theorem FixedBits.syncConfig1 : FixedBits.Statement .syncConfig1 := fun _ => ⟨rfl, by decide⟩
theorem FixedBits.syncConfig2 : FixedBits.Statement .syncConfig2 := fun _ => ⟨rfl, by decide⟩
theorem FixedBits.syncCommand : FixedBits.Statement .syncCommand := fun _ => ⟨rfl, by decide⟩
theorem FixedBits.syncConfig3 : FixedBits.Statement .syncConfig3 := fun _ => ⟨rfl, by decide⟩
theorem FixedBits.cmdwDataOff : FixedBits.Statement .cmdwDataOff := fun _ => ⟨rfl, by decide⟩
theorem FixedBits.cmdwDataOn : FixedBits.Statement .cmdwDataOn := fun _ => ⟨rfl, by decide⟩
theorem FixedBits.cmdwSendHdr : FixedBits.Statement .cmdwSendHdr := fun _ => ⟨rfl, by decide⟩
theorem FixedBits.cmdwSendConfig1 : FixedBits.Statement .cmdwSendConfig1 := fun _ => ⟨rfl, by decide⟩
theorem FixedBits.cmdwSendConfig2 : FixedBits.Statement .cmdwSendConfig2 := fun _ => ⟨rfl, by decide⟩
theorem FixedBits.cmdwSendConfig3 : FixedBits.Statement .cmdwSendConfig3 := fun _ => ⟨rfl, by decide⟩
theorem FixedBits.cmdwExtendedFrame : FixedBits.Statement .cmdwExtendedFrame := fun _ => ⟨rfl, by decide⟩
theorem FixedBits.cmdwUser (w : Half) : FixedBits.Statement (.cmdwUser w) := fun h => by
  have h' : w &&& 0x0F00#16 = 0x0F00#16 := by simpa [Instr.wf, isUserWord] using h
  exact ⟨rfl, by simpa [codeBits, encode, tableRow] using congrArg BitVec.toNat h'⟩

end Sys2Proof.Laws
end

