-- ==== Sys2Proof/Laws/Selects.lean ====
section
/-! SUPPORT. Laws/Selects.lean: the fields of a `CMD` word as the decoder reads them. -/

namespace Sys2Proof.Machine

theorem cmd_op_eq {w : Word} {op : Nat} (h : w.toNat / 2 ^ 24 = op) : (w.extractLsb' 24 8).toNat = op := by
  have := w.isLt
  simp [BitVec.extractLsb'_toNat, Nat.shiftRight_eq_div_pow]; omega

theorem cmd_pmux_eq (w : Word) : w.extractLsb' 0 16 = cmdPmux w := by
  apply BitVec.eq_of_toNat_eq; simp [cmdPmux, BitVec.extractLsb'_toNat]

theorem cmd_source_eq (w : Word) : Source.ofBit ((w.extractLsb' 16 8).getLsbD 2) = cmdSource w := by
  simp [Source.ofBit, cmdSource, cmdFlag]

theorem scope_ofBits : ∀ b : BitVec 2, Scope.ofBits b =
    if b.getLsbD 1 then (if b.getLsbD 0 then .reserved else .allPmu) else (if b.getLsbD 0 then .all else .one) := by
  decide

theorem cmd_scope_eq (w : Word) : Scope.ofBits ((w.extractLsb' 16 8).extractLsb' 4 2) = cmdScope w := by
  rw [scope_ofBits]; simp [cmdScope, cmdFlag]

theorem cmd_flag0_eq (w : Word) : (w.extractLsb' 16 8).getLsbD 0 = cmdFlag 0 w := by simp [cmdFlag]

theorem cmd_flag1_eq (w : Word) : (w.extractLsb' 16 8).getLsbD 1 = cmdFlag 1 w := by simp [cmdFlag]

/-- An operation code selects what `decodeFields` gives for it. -/
theorem selects_of {op : Nat} {i : Word → Instr}
    (h : ∀ (w : Word) (o : Byte), o.toNat = op → decodeFields o (w.extractLsb' 16 8) (w.extractLsb' 0 16) = .ok (i w)) :
    Selects op i := fun w hw => h w _ (cmd_op_eq hw)

end Sys2Proof.Machine
end

