-- ==== Sys2Proof/Tests/Slice0.lean ====
section
/-! SUPPORT. Tests/Slice0.lean: the model's own tests. Expected results are the vectors of 95_test_vectors.md (named V<n>) and
words written out from R130, R131, R134, R103 and R120. The last part gives a witness for the hypotheses of each
obligation. -/

namespace Sys2Proof.Tests

open Sys2Proof Sys2Proof.Machine

/-! ### Helpers -/

/-- Parameters with every OPEN value fixed; `shift` is `CRC_SHIFT3`. -/
def params (shift : Nat) : Params where
  crcShift3 := shift
  bufBytes := 65536
  argBytes := 65536
  maxPmu := 4
  maxPhasors := 16
  maxAnalogs := 16
  maxStatus := 16
  bindRefused := []
  namesPerStatusWord := 16
  nominalFreqDefault := false
  fmtCoordBit := 0
  fmtPhwBit := 1
  fmtAnwBit := 2
  fmtFqwBit := 3
  phTypes := [0, 1]
  anTypes := [0, 1, 2]
  addresses := {
    cmd := 0, a0 := 4, a1 := 8, a2 := 12, r0 := 16, r1 := 20, status := 24, txLen := 28
    rxb := 0x10000, txb := 0x20000, argb := 0x30000, hb := 0x40000 }

/-- The reset state with the test parameters. -/
def base : State := { State.reset with params := params 7 }

/-- The state with operands. -/
def args (s : State) (a0 a1 a2 : Word) : State := { s with a0 := a0, a1 := a1, a2 := a2 }

/-- `STATUS`, `R0` and `R1` after one step that runs the word `w`. -/
def run (s : State) (w : Word) : Option (Byte × Word × Word) :=
  match step (s.presentCmd w) with
  | .next t => some (t.status, t.r0, t.r1)
  | _ => none

/-- A part of the state after one step that runs the word `w`. -/
def after {α : Type} (s : State) (w : Word) (part : State → α) : Option α :=
  match step (s.presentCmd w) with
  | .next t => some (part t)
  | _ => none

/-- "PMU-A" and eleven spaces (V30). -/
def pmuA : Name16 := #v[0x50, 0x4D, 0x55, 0x2D, 0x41, 0x20, 0x20, 0x20, 0x20, 0x20, 0x20, 0x20, 0x20, 0x20, 0x20, 0x20]

/-- `P[1]` of V30. -/
def slotE2 : PmuSlot where
  stationName := pmuA
  idCode := 7
  fmtCoord := true
  fmtPhw := false
  fmtAnw := false
  fmtFqw := false
  numPhasors := 3
  numAnalogs := 3
  numStatusWords := 1
  namesBound := false
  namesHandle := 0
  convFactorPhasor := [0x00002710, 0x00002710, 0x00002710]
  convFactorAnalog := [0x01002710, 0x01002710, 0x01002710]
  statusWordMasks := [0x0000FFFF]
  nominalFreq := true
  confChangeCount := 0

/-- `G` of V30. -/
def globalE2 : Global where
  idCode := 7
  numPmu := 1
  timeBase := 1000000
  epochSeconds := 0x5F5E1000
  fracOfSecond := 0x0007A120
  dataRate := 50

/-- The configuration of V30. -/
def stateE2 : State := { base with g := globalE2, pmus := [slotE2] }

/-- The sample of V51 and V52. -/
def sampleE2 : SampleSlot where
  snapCoord := true
  snapPhw := false
  snapAnw := false
  snapFqw := false
  snapNph := 3
  snapNan := 3
  snapNst := 1
  stat := 0
  ph := [(.int16 1, .int16 2), (.int16 3, .int16 4), (.int16 5, .int16 6)]
  an := [.int16 10, .int16 11, .int16 12]
  fdev := .int16 0xFFFE
  rocof := .int16 7
  dig := [0x8001]

/-- The codec bound to V30's configuration and holding V52's sample. -/
def bound : State :=
  { stateE2 with d := { bound := true, boundN := 1, sampleValid := true, statValid := true }, samples := [sampleE2] }

/-- The codec just bound: no sample. -/
def fresh : State := { bound with d := { bound := true, boundN := 1, sampleValid := false, statValid := false } }

/-- The COMMAND frame of V8 without its CRC. -/
def frameV8 : Bytes := [0xAA, 0x41, 0x00, 0x12, 0x00, 0x07, 0x5F, 0x5E, 0x10, 0x00, 0x00, 0x07, 0xA1, 0x20, 0x00, 0x02]

/-- V8's frame at `RXB[0..18)`. -/
def rxV8 : State := base.writeBytes .rxb 0 (frameV8 ++ [0xDE, 0x2F])

/-- The sample buffer of V51. -/
def rawV51 : Bytes := [0x00, 0x01, 0x00, 0x02, 0x00, 0x03, 0x00, 0x04, 0x00, 0x05, 0x00, 0x06, 0x00, 0x0A, 0x00, 0x0B,
  0x00, 0x0C, 0xFF, 0xFE, 0x00, 0x07, 0x80, 0x01]

/-- The DATA frame of V52. -/
def frameV52 : Bytes := [0xAA, 0x01, 0x00, 0x2A, 0x00, 0x07, 0x5F, 0x5E, 0x10, 0x00, 0x0F, 0x07, 0xA1, 0x20, 0x00, 0x00] ++
  rawV51 ++ [0x41, 0xAC]

/-! ### WellFormed: one ill-formed term for its one check -/

theorem test_wf_user_word_outside_class_refused : (Instr.cmdwUser 0x0001).wf = false := by decide

theorem test_wf_user_word_in_class_accepted : (Instr.cmdwUser 0xFF08).wf = true := by decide

/-! ### Decoding: for every constructor a word written out from the spec -/

/-- What an operation word decodes to. -/
def dec (w : Word) : Option Instr := (decodeCmd w).toOption

theorem test_decode_crc :
    [dec 0x10010000, dec 0x11040000, dec 0x12040000] =
      [some (.crcCompute true .rxb), some (.crcGet .txb), some (.crcCheck false .txb)] := by decide

theorem test_decode_hdr :
    [dec 0x20040000, dec 0x21040000, dec 0x22010000, dec 0x23050000, dec 0x24020000, dec 0x25000000] =
      [some (.hdrType .txb), some (.hdrSize .txb), some (.hdrIdcode true .rxb), some (.hdrSoc true .txb),
       some (.hdrFrac false true .rxb), some .hdrStamp] := by decide

theorem test_decode_cfg_global :
    [dec 0x30000000, dec 0x31000000, dec 0x32000000, dec 0x33000000, dec 0x34000000, dec 0x35000000, dec 0x36000000,
     dec 0x37000000, dec 0x38000000, dec 0x39000000, dec 0x3A000000, dec 0x3B000000] =
      [some .cfgSetPmuCount, some .cfgGetPmuCount, some .cfgSetGid, some .cfgGetGid, some .cfgSetTimeBase,
       some .cfgGetTimeBase, some .cfgSetDataRate, some .cfgGetDataRate, some .cfgSetSoc, some .cfgGetSoc,
       some .cfgSetFrac, some .cfgGetFrac] := by decide

theorem test_decode_cfg_pmu :
    [dec 0x40000002, dec 0x4100FFFF, dec 0x42000001, dec 0x43008000, dec 0x44000001, dec 0x45000001, dec 0x46000001,
     dec 0x47000001, dec 0x48000001] =
      [some (.cfgSetPid 2), some (.cfgGetPid 0xFFFF), some (.cfgSetStn 1), some (.cfgGetStn 0x8000), some (.cfgSetFnom 1),
       some (.cfgGetFnom 1), some (.cfgSetCcc 1), some (.cfgGetCcc 1), some (.cfgIncCcc 1)] := by decide

theorem test_decode_cfg_counts :
    [dec 0x50000001, dec 0x51000001, dec 0x52000001, dec 0x53000001, dec 0x54000001, dec 0x55000001, dec 0x56000001] =
      [some (.cfgSetNph 1), some (.cfgGetNph 1), some (.cfgSetNan 1), some (.cfgGetNan 1), some (.cfgSetNst 1),
       some (.cfgGetNst 1), some (.cfgSetNames 1)] := by decide

theorem test_decode_cfg_format :
    [dec 0x58000001, dec 0x59000001, dec 0x5A000001, dec 0x5B000001, dec 0x5C000001, dec 0x5D000001, dec 0x5E000001,
     dec 0x5F000001] =
      [some (.cfgSetFmtCoord 1), some (.cfgGetFmtCoord 1), some (.cfgSetFmtPhw 1), some (.cfgGetFmtPhw 1),
       some (.cfgSetFmtAnw 1), some (.cfgGetFmtAnw 1), some (.cfgSetFmtFqw 1), some (.cfgGetFmtFqw 1)] := by decide

theorem test_decode_cfg_entries :
    [dec 0x60000001, dec 0x61100001, dec 0x62000001, dec 0x63000001, dec 0x64200000, dec 0x65300001, dec 0x66000001,
     dec 0x67000001, dec 0x68000001, dec 0x69000001, dec 0x6A000001, dec 0x6B000001] =
      [some (.cfgSetPhf 1 .one), some (.cfgSetPht 1 .all), some (.cfgGetPhf 1), some (.cfgGetPht 1),
       some (.cfgSetAnf 0 .allPmu), some (.cfgSetAnt 1 .reserved), some (.cfgGetAnf 1), some (.cfgGetAnt 1),
       some (.cfgSetMskn 1 .one), some (.cfgSetMskv 1 .one), some (.cfgGetMskn 1), some (.cfgGetMskv 1)] := by decide

theorem test_decode_encoders_and_classify :
    [dec 0x70000000, dec 0x71010000, dec 0x80010000] =
      [some .cfgEncode, some (.hdrfBuild true), some (.cmdClassify true .rxb)] := by decide

theorem test_decode_data :
    [dec 0x90000000, dec 0x91010000, dec 0x92000000, dec 0x93000000, dec 0x94000001, dec 0x95000002, dec 0x96000001,
     dec 0x97000001, dec 0x98000001, dec 0x99000001] =
      [some .dataBind, some (.dataDecode true .rxb), some .dataEncode, some (.dataSize 0), some (.dataGetPhasor 1),
       some (.dataGetAnalog 2), some (.dataGetFreq 1), some (.dataGetRocof 1), some (.dataGetStat 1),
       some (.dataGetDig 1)] := by decide

theorem test_decode_sync_words :
    [0xAA01, 0xAA11, 0xAA21, 0xAA31, 0xAA41, 0xAA52, 0xAA51, 0xAB01].map (decodeTableWord 16) =
      [some .syncData, some .syncHeader, some .syncConfig1, some .syncConfig2, some .syncCommand, some .syncConfig3,
       none, none] := by decide

theorem test_decode_command_words :
    [0x0001, 0x0002, 0x0003, 0x0004, 0x0005, 0x0006, 0x0008, 0x0F34, 0x0007, 0x0E01].map (decodeTableWord 16) =
      [some .cmdwDataOff, some .cmdwDataOn, some .cmdwSendHdr, some .cmdwSendConfig1, some .cmdwSendConfig2,
       some .cmdwSendConfig3, some .cmdwExtendedFrame, some (.cmdwUser 0x0F34), none, none] := by decide

/-- V80. -/
theorem test_decode_reserved_refused :
    [dec 0x07000000, dec 0x00000000, dec 0x13000000, dec 0x57000000, dec 0x9A000000, dec 0xFF000000] =
      [none, none, none, none, none, none] := by decide

/-! ### CRC16 and the frame header -/

/-- V1, V2, V4, V5, V6, for both values of `CRC_SHIFT3`. -/
theorem test_crc16_vectors :
    [[], [0x00], [0xAA], [0xAA, 0x41], [0x31, 0x32, 0x33, 0x34, 0x35, 0x36, 0x37, 0x38, 0x39]].map
      (fun m => (crc16 7 m, crc16 12 m)) =
      [(0xFFFF, 0xFFFF), (0x99F0, 0xE1F0), (0xDD50, 0xF550), (0x08B5, 0xB75F), (0x9B87, 0x29B1)] := by decide

/-- V8 and V11. -/
theorem test_crcCompute :
    run (args rxV8 0 16 0) 0x10000000 = some (0, 0xDE2F, 0) ∧
    run (args rxV8 65535 2 0) 0x10000000 = some (5, 0, 0) := by decide

/-- V8 and V11. -/
theorem test_crcGet :
    run (args rxV8 16 0 0) 0x11000000 = some (0, 0xDE2F, 0) ∧
    run (args rxV8 65535 0 0) 0x11000000 = some (5, 0, 0) := by decide

/-- V8 and V9. -/
theorem test_crcCheck :
    run (args rxV8 0 18 0) 0x12000000 = some (0, 1, 0xDE2F) ∧
    run (args (rxV8.writeBytes .rxb 15 [0x03]) 0 18 0) 0x12000000 = some (2, 0, 0) := by decide

/-- V10. -/
theorem test_crcCheck_header_folded :
    run (args (rxV8.writeBytes .hb 0 [0xAA, 0x41, 0x00, 0x12]) 4 14 0) 0x12010000 = some (0, 1, 0xDE2F) := by
  decide

/-- V16 and V19. -/
theorem test_hdrType :
    run (args rxV8 0 18 0) 0x20000000 = some (0, 5, 0x41) ∧
    run (args (rxV8.writeBytes .rxb 1 [0x51]) 0 18 0) 0x20000000 = some (1, 0, 0) := by decide

/-- V20 and V20a. -/
theorem test_hdrSize :
    run (args rxV8 0 18 0) 0x21000000 = some (0, 18, 0) ∧
    run (args rxV8 0 3 0) 0x21000000 = some (1, 0, 0) := by decide

/-- V21 and V21a. -/
theorem test_hdrIdcode :
    run (args rxV8 0 18 0) 0x22000000 = some (0, 7, 0) ∧
    run (args rxV8 2 16 0) 0x22010000 = some (0, 7, 0) := by decide

/-- V22a and V26. -/
theorem test_hdrSoc :
    run (args rxV8 2 16 0) 0x23010000 = some (0, 0x5F5E1000, 0) ∧
    run (args rxV8 65530 10 0) 0x23000000 = some (5, 0, 0) := by decide

/-- V24 and V24b. -/
theorem test_hdrFrac :
    run (args rxV8 0 18 1000000) 0x24020000 = some (0, 0x1DCD6500, 0) ∧
    run (args rxV8 0 18 3) 0x24020000 = some (0, 0x1B73DFA0, 0x00009795) := by decide

/-- V25. -/
theorem test_hdrStamp :
    after (args { stateE2 with g := { globalE2 with fracOfSecond := 0x0F000000 } } 0x5F5E1000 500000000 0) 0x25000000
      (fun t => (t.status, t.g.epochSeconds, t.g.fracOfSecond)) = some (0, 0x5F5E1000, 0x0F07A120) := by decide

/-- V25c: the stored count is 24 bits. -/
theorem test_hdrStamp_masks :
    after (args { stateE2 with g := { globalE2 with timeBase := 0x02000000, fracOfSecond := 0 } } 0 999999999 0) 0x25000000
      (fun t => t.g.fracOfSecond) = some 0x00FFFFFF := by decide

/-! ### Configuration scalars -/

/-- V68, with `MAX_PMU` = 4, and a first slot (R63). -/
theorem test_cfgSetPmuCount :
    run (args base 5 0 0) 0x30000000 = some (3, 0, 0) ∧
    after (args stateE2 2 0 0) 0x30000000 (fun t => (t.g.numPmu, t.pmus)) =
      some (2, [slotE2, freshSlot (params 7)]) := by decide

theorem test_cfgGetPmuCount : run stateE2 0x31000000 = some (0, 1, 0) := by decide

/-- V71. -/
theorem test_cfgSetGid : after (args base 0x12345 0 0) 0x32000000 (·.g.idCode) = some 0x2345 := by decide

theorem test_cfgGetGid : run stateE2 0x33000000 = some (0, 7, 0) := by decide

theorem test_cfgSetTimeBase : after (args base 0xFF0F4240 0 0) 0x34000000 (·.g.timeBase) = some 0xFF0F4240 := by
  decide

theorem test_cfgGetTimeBase : run stateE2 0x35000000 = some (0, 1000000, 0) := by decide

/-- V70. -/
theorem test_cfgSetDataRate : after (args base 0xFFFFFFFE 0 0) 0x36000000 (·.g.dataRate) = some 0xFFFE := by decide

/-- V70. -/
theorem test_cfgGetDataRate :
    run { base with g := { globalE2 with dataRate := 0xFFFE } } 0x37000000 = some (0, 0x0000FFFE, 0) := by decide

theorem test_cfgSetSoc : after (args base 0x5F5E1000 0 0) 0x38000000 (·.g.epochSeconds) = some 0x5F5E1000 := by
  decide

theorem test_cfgGetSoc : run stateE2 0x39000000 = some (0, 0x5F5E1000, 0) := by decide

theorem test_cfgSetFrac : after (args base 0x0F000000 0 0) 0x3A000000 (·.g.fracOfSecond) = some 0x0F000000 := by
  decide

theorem test_cfgGetFrac : run stateE2 0x3B000000 = some (0, 0x0007A120, 0) := by decide

/-- V67: an index past the table. -/
theorem test_cfgSetPid :
    after (args stateE2 0x10009 0 0) 0x40000001 (fun t => t.pmus.map (·.idCode)) = some [9] ∧
    run (args stateE2 9 0 0) 0x40000003 = some (4, 0, 0) := by decide

theorem test_cfgGetPid : run stateE2 0x41000001 = some (0, 7, 0) ∧ run stateE2 0x41000000 = some (4, 0, 0) := by
  decide

/-- V63a. -/
theorem test_cfgSetStn_copies_zero :
    after (args (stateE2.writeBytes .argb 0 [0x41, 0x00, 0x42]) 3 0 0) 0x42000001
      (fun t => t.pmus.map (·.stationName.toList)) = some [[0x41, 0x00, 0x42] ++ List.replicate 13 0x20] := by decide

/-- V63. -/
theorem test_cfgSetStn_truncates :
    after (args (stateE2.writeBytes .argb 0 ((List.range 20).map fun i => BitVec.ofNat 8 (0x61 + i))) 20 0 0) 0x42000001
      (fun t => t.pmus.map (·.stationName.toList)) = some [(List.range 16).map fun i => BitVec.ofNat 8 (0x61 + i)] := by
  decide

/-- V64. -/
theorem test_cfgGetStn :
    after stateE2 0x43000001 (fun t => (t.r0, t.readBytes .argb 0 16)) = some (16, pmuA.toList) := by decide

/-- V65. -/
theorem test_cfgSetFnom :
    after (args stateE2 60 0 0) 0x44000001 (fun t => t.pmus.map (·.nominalFreq)) = some [false] ∧
    after (args stateE2 400 0 0) 0x44000001 (fun t => t.pmus.map (·.nominalFreq)) = some [true] := by decide

/-- V65. -/
theorem test_cfgGetFnom :
    run stateE2 0x45000001 = some (0, 50, 0) ∧
    run { stateE2 with pmus := [{ slotE2 with nominalFreq := false }] } 0x45000001 = some (0, 60, 0) := by decide

/-- V66. -/
theorem test_cfgSetCcc :
    after (args stateE2 0x1FFFF 0 0) 0x46000001 (fun t => t.pmus.map (·.confChangeCount)) = some [0xFFFF] := by
  decide

theorem test_cfgGetCcc :
    run { stateE2 with pmus := [{ slotE2 with confChangeCount := 0xFFFF }] } 0x47000001 = some (0, 0xFFFF, 0) := by
  decide

/-- V66. -/
theorem test_cfgIncCcc_wraps :
    run { stateE2 with pmus := [{ slotE2 with confChangeCount := 0xFFFF }] } 0x48000001 = some (0, 0, 0) := by decide

/-- V69. -/
theorem test_cfgSetFmt_independent :
    [0x58000001, 0x5A000001, 0x5C000001, 0x5E000001].map (fun w =>
      after (args { stateE2 with pmus := [{ slotE2 with fmtCoord := false }] } 5 0 0) w
        (fun t => t.pmus.map fun x => (x.fmtCoord, x.fmtPhw, x.fmtAnw, x.fmtFqw))) =
      [some [(true, false, false, false)], some [(false, true, false, false)], some [(false, false, true, false)],
       some [(false, false, false, true)]] := by decide

/-- V69. -/
theorem test_cfgGetFmt :
    [0x59000001, 0x5B000001, 0x5D000001, 0x5F000001].map
      (run { stateE2 with pmus := [{ slotE2 with fmtAnw := true }] }) =
      [some (0, 1, 0), some (0, 0, 0), some (0, 1, 0), some (0, 0, 0)] := by decide

/-- V69: `data_format16` with coord and anw set. -/
theorem test_data_format16 : dataFormat16 (params 7) { slotE2 with fmtAnw := true } = 0x0005 := by decide

/-! ### Configuration counts, names and entries -/

/-- V77. -/
theorem test_cfgSetNph :
    after (args stateE2 4 0 0) 0x50000001 (fun t => t.pmus.map fun x => (x.numPhasors, x.convFactorPhasor)) =
      some [(4, [0, 0, 0, 0])] ∧
    after (args stateE2 3 0 0) 0x50000001 (·.pmus) = some [slotE2] := by decide

theorem test_cfgSetNan_and_cfgSetNst :
    after (args stateE2 1 0 0) 0x52000001 (fun t => t.pmus.map fun x => (x.numAnalogs, x.convFactorAnalog)) =
      some [(1, [0])] ∧
    run (args stateE2 17 0 0) 0x54000001 = some (3, 0, 0) := by decide

theorem test_cfgGet_counts :
    [0x51000001, 0x53000001, 0x55000001].map (run stateE2) = [some (0, 3, 0), some (0, 3, 0), some (0, 1, 0)] := by
  decide

/-- V78. -/
theorem test_cfgSetNames :
    after (args stateE2 0x1000 0 0) 0x56000001 (fun t => t.pmus.map fun x => (x.namesBound, x.namesHandle)) =
      some [(true, 0x1000)] ∧
    run (args { stateE2 with pmus := [{ slotE2 with numPhasors := 0, convFactorPhasor := [] }] } 0x1000 0 0) 0x56000001 =
      some (11, 0, 0) := by decide

/-- V72: the tag is kept, the operand's high byte is dropped. -/
theorem test_cfgSetPhf :
    after (args { stateE2 with pmus := [{ slotE2 with convFactorPhasor := [0, 0x07002710, 0] }] } 2 0xAB123456 0)
      0x60000001 (fun t => t.pmus.map (·.convFactorPhasor)) = some [[0, 0x07123456, 0]] := by decide

/-- V76. -/
theorem test_cfgSetPhf_scopes :
    after (args { stateE2 with pmus := [{ slotE2 with convFactorPhasor := [0, 0, 0] }] } 0 10000 0) 0x60100001
      (·.pmus) = some [slotE2] ∧
    run (args stateE2 1 10000 0) 0x60300001 = some (10, 0, 0) := by decide

/-- V72. -/
theorem test_cfgSetPht :
    after (args stateE2 2 1 0) 0x61000001 (fun t => t.pmus.map (·.convFactorPhasor)) =
      some [[0x00002710, 0x01002710, 0x00002710]] := by decide

/-- V72 and V73. -/
theorem test_cfgGetPhf :
    run (args stateE2 2 0 0) 0x62000001 = some (0, 0x2710, 0) ∧ run (args stateE2 4 0 0) 0x62000001 = some (4, 0, 0) := by
  decide

/-- V72: a tag that is not allowed reads INVALID. -/
theorem test_cfgGetPht :
    run (args stateE2 2 0 0) 0x63000001 = some (0, 0, 0) ∧
    run (args { stateE2 with pmus := [{ slotE2 with convFactorPhasor := [0, 0x07002710, 0] }] } 2 0 0) 0x63000001 =
      some (0, 0xFF, 0) := by decide

theorem test_cfgSetAnf :
    after (args stateE2 1 5 0) 0x64000001 (fun t => t.pmus.map (·.convFactorAnalog)) =
      some [[0x01000005, 0x01002710, 0x01002710]] := by decide

/-- V74. -/
theorem test_cfgSetAnt :
    after (args stateE2 1 2 0) 0x65000001 (fun t => t.pmus.map (·.convFactorAnalog)) =
      some [[0x02002710, 0x01002710, 0x01002710]] := by decide

theorem test_cfgGetAnf : run (args stateE2 3 0 0) 0x66000001 = some (0, 0x2710, 0) := by decide

theorem test_cfgGetAnt : run (args stateE2 3 0 0) 0x67000001 = some (0, 1, 0) := by decide

/-- V75. -/
theorem test_cfgSetMskn :
    after (args stateE2 1 0xABCD 0) 0x68000001 (fun t => t.pmus.map (·.statusWordMasks)) = some [[0xABCDFFFF]] := by
  decide

/-- V75. -/
theorem test_cfgSetMskv :
    after (args { stateE2 with pmus := [{ slotE2 with statusWordMasks := [0xABCDFFFF] }] } 1 0x00F0 0) 0x69000001
      (fun t => t.pmus.map (·.statusWordMasks)) = some [[0xABCD00F0]] := by decide

/-- V75. -/
theorem test_cfgGetMskn_and_cfgGetMskv :
    [0x6A000001, 0x6B000001].map
      (run (args { stateE2 with pmus := [{ slotE2 with statusWordMasks := [0xABCD00F0] }] } 1 0 0)) =
      [some (0, 0xABCD, 0), some (0, 0x00F0, 0)] := by decide

/-! ### Frames -/

/-- V30. -/
theorem test_cfgEncode :
    after (args stateE2 1 0 0) 0x70000000 (fun t => (t.txLen, t.readBytes .txb 0 82)) = some (82,
      [0xAA, 0x21, 0x00, 0x52, 0x00, 0x07, 0x5F, 0x5E, 0x10, 0x00, 0x00, 0x07, 0xA1, 0x20, 0x00, 0x0F,
       0x42, 0x40, 0x00, 0x01, 0x50, 0x4D, 0x55, 0x2D, 0x41, 0x20, 0x20, 0x20, 0x20, 0x20, 0x20, 0x20,
       0x20, 0x20, 0x20, 0x20, 0x00, 0x07, 0x00, 0x01, 0x00, 0x03, 0x00, 0x03, 0x00, 0x01, 0x00, 0x00,
       0x27, 0x10, 0x00, 0x00, 0x27, 0x10, 0x00, 0x00, 0x27, 0x10, 0x01, 0x00, 0x27, 0x10, 0x01, 0x00,
       0x27, 0x10, 0x01, 0x00, 0x27, 0x10, 0x00, 0x00, 0xFF, 0xFF, 0x00, 0x01, 0x00, 0x00, 0x00, 0x32,
       0x87, 0x75]) := by decide +kernel

/-- The 22 names of V31, under handle 0x1000. -/
def namesV31 : List Name16 :=
  let pad := fun bs : Bytes => (Vector.ofFn fun i => bs.getD i.val 0x20 : Name16)
  [[0x56, 0x41], [0x56, 0x42], [0x56, 0x43], [0x41, 0x4E, 0x31], [0x41, 0x4E, 0x32], [0x41, 0x4E, 0x33]].map pad ++
    (List.range 16).map fun i => pad [0x44, 0x30 + BitVec.ofNat 8 (i / 10), 0x30 + BitVec.ofNat 8 (i % 10)]

/-- V31: 22 bound names, `L` = 434, the CRC; V32: 21 names are too few. -/
theorem test_cfgEncode_names :
    let named := { stateE2 with pmus := [{ slotE2 with namesBound := true, namesHandle := 0x1000 }] }
    let full := { named with names := [(0x1000, namesV31)] }
    (after (args full 2 0 0) 0x70000000 (·.txLen) = some 434 ∧
      (withTrailer 7 (configBody full 0xAA31)).drop 432 = [0xC5, 0x2B]) ∧
    run (args { named with names := [(0x1000, namesV31.take 21)] } 2 0 0) 0x70000000 = some (14, 0, 0) := by decide +kernel

/-- V40. -/
theorem test_hdrfBuild :
    after (args (stateE2.writeBytes .argb 0 [0x50, 0x4D, 0x55]) 3 0 0) 0x71010000
      (fun t => (t.txLen, t.readBytes .txb 0 19)) = some (19,
      [0xAA, 0x11, 0x00, 0x13, 0x00, 0x07, 0x5F, 0x5E, 0x10, 0x00, 0x00, 0x07, 0xA1, 0x20, 0x50, 0x4D, 0x55, 0xFA, 0x64]) :=
  by decide

/-- V42. -/
theorem test_hdrfBuild_failures :
    run (args stateE2 3 0 0) 0x71000000 = some (8, 0, 0) ∧ run (args stateE2 65520 0 0) 0x71010000 = some (9, 0, 0) := by
  decide

/-- V45. -/
theorem test_cmdClassify_word :
    [0x0007, 0x0008, 0xFF08, 0x8001, 0x00020001].map (fun a => run (args base a 0 0) 0x80000000) =
      [some (0, 0, 0x0007), some (0, 7, 0x0008), some (0, 8, 0xFF08), some (0, 0, 0x8001), some (0, 1, 0x0001)] := by
  decide

/-- V46. -/
theorem test_cmdClassify_frame :
    run (args rxV8 0 18 14) 0x80010000 = some (0, 2, 2) ∧ run (args rxV8 0 18 17) 0x80010000 = some (1, 0, 0) := by
  decide

/-! ### Data codec -/

/-- The state on a machine that cannot allocate the buffers of the state's own bind request, and can those of any other. -/
def refusing (s : State) : State := { s with params := { s.params with bindRefused := [s.bindRequest] } }

/-- R300: the failure branch is taken for the refused request alone. -/
theorem test_dataBind_refused :
    after (refusing bound) 0x90000000 (fun t => (t.status, t.d.bound, t.samples)) = some (3, false, []) ∧
    after { refusing bound with pmus := [{ slotE2 with numPhasors := 4 }] } 0x90000000 (fun t => (t.status, t.d.bound)) =
      some (0, true) := by decide

theorem test_dataBind :
    after bound 0x90000000 (fun t => (t.r0, t.d)) =
      some (1, { bound := true, boundN := 1, sampleValid := false, statValid := false }) ∧
    after bound 0x90000000 (fun t => t.samples.map fun y => (y.snapCoord, y.snapNph, y.snapNan, y.snapNst)) =
      some [(true, 3, 3, 1)] := by decide

/-- V51: without the common header STAT is kept. -/
theorem test_dataDecode_raw :
    after (args (fresh.writeBytes .rxb 0 rawV51) 0 24 0) 0x91000000 (fun t => (t.r0, t.samples, t.d.statValid)) =
      some (24, [sampleE2], false) := by decide

/-- V52. -/
theorem test_dataDecode_frame :
    after (args (fresh.writeBytes .rxb 0 frameV52) 2 40 0) 0x91010000 (fun t => (t.r0, t.samples, t.d.statValid)) =
      some (40, [sampleE2], true) := by decide

/-- V52. -/
theorem test_dataEncode :
    after { bound with g := { globalE2 with fracOfSecond := 0x0F07A120 } } 0x92000000
      (fun t => (t.txLen, t.readBytes .txb 0 42)) = some (42, frameV52) := by decide +kernel

/-- V51: no sample with STAT. -/
theorem test_dataEncode_no_sample : run fresh 0x92000000 = some (7, 0, 0) := by decide

/-- V50. -/
theorem test_dataSize :
    run bound 0x93000000 = some (0, 42, 0) ∧ run bound 0x93000001 = some (0, 26, 0) := by decide

/-- V51 and P4 line 7. -/
theorem test_dataGetPhasor :
    run (args bound 2 0 0) 0x94000001 = some (0, 3, 4) ∧ run (args fresh 2 0 0) 0x94000001 = some (7, 0, 0) := by
  decide

theorem test_dataGetAnalog :
    run (args bound 3 0 0) 0x95000001 = some (0, 12, 0) ∧ run (args bound 4 0 0) 0x95000001 = some (4, 0, 0) := by
  decide

/-- V51, V54. -/
theorem test_dataGetFreq :
    run bound 0x96000001 = some (0, 0x0000FFFE, 0) ∧ run stateE2 0x96000001 = some (6, 0, 0) := by decide

theorem test_dataGetRocof : run bound 0x97000001 = some (0, 7, 0) := by decide

/-- V51. -/
theorem test_dataGetStat :
    run bound 0x98000001 = some (0, 0, 0) ∧ run fresh 0x98000001 = some (7, 0, 0) := by decide

/-- V56: the float32 patterns are carried unchanged. -/
theorem test_dataGetRocof_float :
    run { bound with samples := [{ sampleE2 with snapFqw := true, fdev := .float32 0x3E800000, rocof := .float32 0x7FC00001 }] }
      0x97000001 = some (0, 0x7FC00001, 0) := by decide

theorem test_dataGetDig : run (args bound 1 0 0) 0x99000001 = some (0, 0x8001, 0) := by decide

/-! ### Words of frames, illegal operations, the step -/

/-- The status and results of the step that runs a table word right after reset. -/
def runTableWord (nbits w : Nat) : Option (Byte × Word × Word) :=
  match step (State.reset.withFetchWord nbits w) with
  | .next t => some (t.status, t.r0, t.r1)
  | _ => none

/-- V19a and V16. -/
theorem test_sync_words_run :
    [0xAA01, 0xAA11, 0xAA21, 0xAA31, 0xAA41, 0xAA52].map (runTableWord 16) =
      [some (0, 1, 0x01), some (0, 2, 0x11), some (0, 3, 0x21), some (0, 4, 0x31), some (0, 5, 0x41), some (0, 6, 0x52)] := by
  decide

/-- V45. -/
theorem test_command_words_run :
    [0x0001, 0x0002, 0x0003, 0x0004, 0x0005, 0x0006, 0x0008, 0x1F00].map (runTableWord 16) =
      [some (0, 1, 1), some (0, 2, 2), some (0, 3, 3), some (0, 4, 4), some (0, 5, 5), some (0, 6, 6), some (0, 7, 8),
       some (0, 8, 0x1F00)] := by decide

/-- V80. -/
theorem test_illegal_op : run stateE2 0x57000000 = some (13, 0, 0) := by decide

/-! ### The host address space -/

/-- One step of the host's access. -/
def stepOf (s : State) (a : HostAccess) : Host.Outcome State Fault Refusal := step { s with host := [a] }

/-- R6, R72: stores reach what sits at their address; `R0` is not the host's to write. -/
theorem test_host_stores :
    stepOf base (.storeWord 12 5) = stepOf base (.writeOperand .a2 5) ∧
    stepOf bound (.storeWord 0 0x93000000) = stepOf bound (.writeCmd 0x93000000) ∧
    stepOf base (.storeByte 0x40003 0xAA) = stepOf base (.writeByte .hb 3 0xAA) ∧
    stepOf base (.storeWord 16 5) = .fault (.noHostAddress 16) ∧
    stepOf base (.storeByte 0x40004 0xAA) = .fault (.noHostAddress 0x40004) :=
  ⟨rfl, rfl, rfl, rfl, rfl⟩

theorem test_host_reads :
    (base.hostRead 24, { base with txLen := 0xFFFF }.hostRead 28, rxV8.hostRead 0x10001, base.hostRead 29) =
      (some 0, some 0xFFFF, some 0x41, none) := by decide

/-! ### Witnesses: for each obligation with hypotheses a concrete state and operands that meet them, for each clause at a
boundary value -/

/-- The slot `x` is the one `p` names. -/
abbrev NamesSlot (s : State) (p : PmuIndex) (x : PmuSlot) : Prop :=
  1 ≤ p.toNat ∧ p.toNat ≤ s.g.numPmu.toNat ∧ s.pmus[p.toNat - 1]? = some x

/-- `p` names no slot. -/
abbrev NamesNoSlot (s : State) (p : PmuIndex) : Prop := p.toNat = 0 ∨ s.g.numPmu.toNat < p.toNat

/-- The presented bytes lie in the buffer. -/
abbrev Fits (s : State) : Prop := s.a0.toNat + s.a1.toNat ≤ s.params.bufBytes

theorem base_inv : base.Inv := by constructor <;> decide

theorem stateE2_inv : stateE2.Inv := by constructor <;> decide

theorem bound_inv : bound.Inv := by constructor <;> decide

theorem witness_ResetGivesEveryRegisterItsResetValue :
    ∃ t, step { bound with host := [.reset] } = .next t ∧ t.resets = 1 := ⟨_, rfl, rfl⟩

theorem witness_EveryStepKeepsTheInvariant : bound.Inv ∧ ∃ t, step bound = .next t ∧ t.samples = [sampleE2] :=
  ⟨bound_inv, _, rfl, rfl⟩

theorem witness_WritingCmdRunsTheDecodedOperation :
    (bound.presentCmd 0x92000000).host = [.writeCmd 0x92000000] ∧ decodeCmd 0x92000000 = .ok .dataEncode := ⟨rfl, rfl⟩

theorem witness_IdleBlockChangesNothing : bound.host = [] := rfl

theorem witness_HostAccessWritesItsTargetOnly :
    65535 < base.params.size .rxb ∧ 65535 < base.params.size .argb ∧ 3 < base.params.size .hb ∧
    base.params.size .txb ≤ 65536 ∧ base.params.size .hb ≤ 4 ∧
    { base with host := [.writeByte .hb 3 0xAA, .reset] }.host = [.writeByte .hb 3 0xAA, .reset] := by decide

/-- A register, the last byte of one buffer and the first of the next, the last byte of `HB`, and an address past it. -/
theorem witness_HostAddressesReachWhatSitsThere :
    (placeHolds base.params .cmd 0 = true ∧ ∀ q, placeHolds base.params q 0 = true → q = .cmd) ∧
    (placeHolds base.params .rxb 0x1FFFF = true ∧ ∀ q, placeHolds base.params q 0x1FFFF = true → q = .rxb) ∧
    (placeHolds base.params .txb 0x20000 = true ∧ ∀ q, placeHolds base.params q 0x20000 = true → q = .txb) ∧
    (placeHolds base.params .hb 0x40003 = true ∧ ∀ q, placeHolds base.params q 0x40003 = true → q = .hb) ∧
    ∀ q, placeHolds base.params q 0x40004 = false := by
  refine ⟨⟨?_, fun q => ?_⟩, ⟨?_, fun q => ?_⟩, ⟨?_, fun q => ?_⟩, ⟨?_, fun q => ?_⟩, fun q => ?_⟩ <;>
    first | decide | (cases q <;> decide)

/-- Both ends of each range of R132. -/
theorem witness_OperationsOutsideTheTableAreIllegal :
    [0x00, 0x0F, 0x13, 0x1F, 0x26, 0x2F, 0x3C, 0x3F, 0x49, 0x4F, 0x57, 0x6C, 0x6F, 0x72, 0x7F, 0x81, 0x8F, 0x9A, 0xFF].map
      (fun n => dec (BitVec.ofNat 32 (n * 2 ^ 24))) = List.replicate 19 none ∧
    ([0x10, 0x12, 0x20, 0x25, 0x30, 0x3B, 0x40, 0x48, 0x50, 0x56, 0x58, 0x6B, 0x70, 0x71, 0x80, 0x90, 0x99].all
      fun n => (dec (BitVec.ofNat 32 (n * 2 ^ 24))).isSome) = true ∧
    (args base 3 0 0).a0 = 3 := by decide

theorem witness_DecodeReturnsWhatWasEncoded :
    (Instr.cmdwUser 0x0F00).wf = true ∧ (Instr.cmdwUser 0xFFFF).wf = true ∧ (Instr.cfgSetPhf 0xFFFF .reserved).wf = true := by
  decide

theorem witness_OperationsIgnoreTheBitsTheyDoNotRead :
    dec 0x12FFFFFF = some (.crcCheck true .txb) ∧ dec 0x12050000 = some (.crcCheck true .txb) ∧
    (0x12FFFFFF : Word) &&& (Instr.crcCheck true .txb).readMask = 0x12050000 := by decide

theorem witness_WireWordsHaveOneMeaning :
    (decode (.wire 0xAA52)).toOption = some .syncConfig3 ∧ (decode (.wire 0xFFFF)).toOption = some (.cmdwUser 0xFFFF) := by
  decide

theorem witness_SyncWordsAreRunByHdrType :
    dec 0x20000000 = some (.hdrType .rxb) ∧ Fits (args rxV8 0 2 0) ∧ 2 ≤ (args rxV8 0 2 0).a1.toNat ∧
    (decodeSync (rxV8.readByte .rxb 0) (rxV8.readByte .rxb 1)).toOption = some .syncCommand := by decide

theorem witness_CommandWordsAreRunByCmdClassify :
    (dec 0x80000000 = some (.cmdClassify false .rxb) ∧
      (decodeCommandWord ((args base 0x00020001 0 0).a0.setWidth 16)).toOption = some .cmdwDataOff) ∧
    (dec 0x80010000 = some (.cmdClassify true .rxb) ∧ Fits (args rxV8 0 16 14) ∧
      (args rxV8 0 16 14).a2.toNat + 2 ≤ (args rxV8 0 16 14).a1.toNat ∧
      (decodeCommandWord (rxV8.read16 .rxb 14)).toOption = some .cmdwDataOn) := by decide

theorem witness_WireWordRowsGiveTheirKind : (0x0F00 : Half) &&& 0x0F00 = 0x0F00 ∧ (0xFFFF : Half) &&& 0x0F00 = 0x0F00 := by
  decide

theorem witness_CrcComputeFoldsThePresentedBytes : Fits (args base 65535 1 0) ∧ ¬ Fits (args base 65535 2 0) := by decide

theorem witness_CrcGetReadsTwoBytes :
    (args base 65534 0 0).a0.toNat + 2 ≤ base.params.bufBytes ∧ base.params.bufBytes < (args base 65535 0 0).a0.toNat + 2 := by
  decide

/-- V8, V9 and V11. -/
theorem witness_CrcCheckComparesWithTheTrailer :
    (args base 0 1 0).a1.toNat < 2 ∧ (2 ≤ (args base 65535 2 0).a1.toNat ∧ ¬ Fits (args base 65535 2 0)) ∧
    (2 ≤ (args base 65534 2 0).a1.toNat ∧ Fits (args base 65534 2 0)) ∧
    crc16 7 frameV8 = rxV8.read16 .rxb 16 ∧
    crc16 7 [] ≠ (base.writeBytes .rxb 0 [0x00, 0x00]).read16 .rxb 0 := by decide

/-- V8 with its first and its last bit flipped; an empty message. -/
theorem witness_AppendedCrcPassesAndOneFlippedBitFails :
    base.params.crcShift3 = 7 ∧ (args rxV8 0 18 0).a1.toNat = frameV8.length + 2 ∧ Fits (args rxV8 0 18 0) ∧
    rxV8.readBytes .rxb 0 18 = frameV8 ++ bytesBe16 (crc16 7 frameV8) ∧
    (base.writeBytes .rxb 0 ([0xAB] ++ frameV8.tail ++ [0xDE, 0x2F])).readBytes .rxb 0 18 =
      (frameV8 ++ bytesBe16 (crc16 7 frameV8)).modify 0 (fun b => b ^^^ BitVec.ofNat 8 (2 ^ 0)) ∧
    (base.writeBytes .rxb 0 (frameV8 ++ [0xDE, 0xAF])).readBytes .rxb 0 18 =
      (frameV8 ++ bytesBe16 (crc16 7 frameV8)).modify 17 (fun b => b ^^^ BitVec.ofNat 8 (2 ^ 7)) ∧
    (base.writeBytes .rxb 0 [0xFF, 0xFF]).readBytes .rxb 0 2 = [] ++ bytesBe16 (crc16 7 []) := by decide

theorem witness_HeaderFoldGivesTheWholeFrameCrc :
    0 + 4 + 65532 ≤ rxV8.params.bufBytes ∧ 0 + 4 + 65532 < 2 ^ 32 ∧
    (rxV8.writeBytes .hb 0 [0xAA, 0x41, 0x00, 0x12]).readBytes .hb 0 4 =
      (rxV8.writeBytes .hb 0 [0xAA, 0x41, 0x00, 0x12]).readBytes .rxb 0 4 := by decide

theorem witness_HdrTypeGivesTheFrameKind :
    ¬ Fits (args base 65535 2 0) ∧ (Fits (args base 65535 1 0) ∧ (args base 65535 1 0).a1.toNat < 2) ∧
    (Fits (args rxV8 0 2 0) ∧ 2 ≤ (args rxV8 0 2 0).a1.toNat ∧ rxV8.readByte .rxb 0 = 0xAA ∧ rxV8.readByte .rxb 1 = 0x41) ∧
    (rxV8.writeBytes .rxb 0 [0xAB]).readByte .rxb 0 ≠ 0xAA := by decide

theorem witness_HdrFieldsAreFixedOffsetReads :
    ¬ Fits (args base 65530 10 0) ∧ (Fits (args base 0 3 0) ∧ (args base 0 3 0).a1.toNat < 4) ∧
    (Fits (args base 0 4 0) ∧ 4 ≤ (args base 0 4 0).a1.toNat ∧ (args base 0 4 0).a1.toNat < 4 + 2) ∧
    (Fits (args base 65526 10 0) ∧ 6 + 4 ≤ (args base 65526 10 0).a1.toNat) := by decide

theorem witness_HdrFracRescalesExactly :
    ¬ Fits (args base 65523 14 0) ∧ (Fits (args base 0 13 3) ∧ (args base 0 13 3).a1.toNat < 10 + 4) ∧
    (Fits (args base 65522 14 3) ∧ 10 + 4 ≤ (args base 65522 14 3).a1.toNat ∧ (args base 65522 14 3).a2 ≠ 0) := by decide

theorem witness_HdrStampKeepsTheTopByte :
    1000000000 ≤ (args stateE2 0 1000000000 0).a1.toNat ∧ base.g.timeBase = 0 ∧
    (args stateE2 0 999999999 0).a1.toNat < 1000000000 ∧ stateE2.g.timeBase ≠ 0 := by decide

theorem witness_SetPmuCountKeepsOldSlotsAndAddsFreshOnes :
    (args stateE2 5 0 0).params.maxPmu < (args stateE2 5 0 0).a0.toNat ∧
    ((args stateE2 4 0 0).a0.toNat ≤ stateE2.params.maxPmu ∧ stateE2.params.maxPmu ≤ 65535 ∧
      stateE2.pmus.length = stateE2.g.numPmu.toNat) := by decide

theorem witness_PmuScalarSettersWriteTheirField :
    NamesSlot stateE2 1 slotE2 ∧ NamesNoSlot stateE2 0 ∧ NamesNoSlot stateE2 2 := by decide

theorem witness_PmuScalarGettersReadTheirField :
    NamesSlot stateE2 1 slotE2 ∧ NamesNoSlot stateE2 0 ∧ NamesNoSlot stateE2 2 := by decide

theorem witness_SetStationNameCopiesAndPads :
    (NamesSlot stateE2 1 slotE2 ∧ (args stateE2 65536 0 0).a0.toNat ≤ stateE2.params.argBytes ∧
      stateE2.params.argBytes < (args stateE2 65537 0 0).a0.toNat) ∧
    NamesNoSlot stateE2 2 := by decide

theorem witness_GetStationNameWritesSixteenBytes : NamesSlot stateE2 1 slotE2 ∧ NamesNoSlot stateE2 0 := by decide

theorem witness_FormatFlagSettersLeaveTheOthers : NamesSlot stateE2 1 slotE2 ∧ NamesNoSlot stateE2 2 := by decide

theorem witness_ResizeClearsTheEntries :
    (NamesSlot stateE2 1 slotE2 ∧ stateE2.params.maxPhasors < (args stateE2 17 0 0).a0.toNat ∧
      (args stateE2 3 0 0).a0.toNat = slotE2.numPhasors.toNat ∧ (args stateE2 16 0 0).a0.toNat ≤ stateE2.params.maxStatus ∧
      (args stateE2 16 0 0).a0.toNat ≠ slotE2.numStatusWords.toNat) ∧ NamesNoSlot stateE2 0 := by decide

theorem witness_SetNamesStoresTheHandle :
    (NamesSlot stateE2 1 slotE2 ∧ slotE2.numPhasors ≠ 0) ∧
    NamesSlot { stateE2 with pmus := [freshSlot (params 7)] } 1 (freshSlot (params 7)) ∧ (freshSlot (params 7)).numPhasors = 0 ∧
    NamesNoSlot stateE2 2 := by decide

theorem witness_EntrySettersWriteOneHalfOfOneEntry :
    (NamesSlot stateE2 1 slotE2 ∧ 1 ≤ (args stateE2 3 0 0).a0.toNat ∧ (args stateE2 3 0 0).a0.toNat ≤ slotE2.numPhasors.toNat ∧
      slotE2.convFactorPhasor[(args stateE2 3 0 0).a0.toNat - 1]? = some 0x00002710 ∧
      slotE2.convFactorAnalog[(args stateE2 3 0 0).a0.toNat - 1]? = some 0x01002710 ∧
      slotE2.statusWordMasks[(args stateE2 1 0 0).a0.toNat - 1]? = some 0x0000FFFF) ∧
    (args stateE2 0 0 0).a0.toNat = 0 ∧ slotE2.numPhasors.toNat < (args stateE2 4 0 0).a0.toNat ∧ NamesNoSlot stateE2 0 := by
  decide

theorem witness_BulkScopesUpdateEveryEntry : NamesSlot stateE2 1 slotE2 ∧ NamesNoSlot stateE2 0 ∧ NamesNoSlot stateE2 2 := by
  decide

theorem witness_EntryGettersReadOneHalfOfOneEntry :
    (NamesSlot stateE2 1 slotE2 ∧ slotE2.convFactorPhasor[(args stateE2 1 0 0).a0.toNat - 1]? = some 0x00002710 ∧
      slotE2.convFactorAnalog[(args stateE2 3 0 0).a0.toNat - 1]? = some 0x01002710 ∧
      slotE2.statusWordMasks[(args stateE2 1 0 0).a0.toNat - 1]? = some 0x0000FFFF) ∧
    (args stateE2 0 0 0).a0.toNat = 0 ∧ slotE2.numStatusWords.toNat < (args stateE2 2 0 0).a0.toNat ∧ NamesNoSlot stateE2 2 := by
  decide

/-- A slot with a bound list that is too short: `C(p)` is 22, no name is stored. -/
def shortNames : State := { stateE2 with pmus := [{ slotE2 with namesBound := true, namesHandle := 1 }] }

/-- One PMU whose frame is longer than 65535 bytes: its 256 status words ask for 4096 names of 16 bytes (R112). -/
def tooLong : State :=
  { base with
    params := { params 7 with maxStatus := 256 }, g := globalE2
    pmus := [{ freshSlot (params 7) with
      numStatusWords := 256, statusWordMasks := List.replicate 256 0, namesBound := true, namesHandle := 1 }] }

theorem witness_CfgEncodeEmitsTheConfigFrame :
    ((args stateE2 1 0 0).Inv ∧ configLength (args stateE2 1 0 0) = 82 ∧ (args stateE2 1 0 0).pmus.any (namesShort stateE2) = false) ∧
    ((args shortNames 2 0 0).Inv ∧ shortNames.pmus.any (namesShort shortNames) = true ∧ configLength shortNames ≤ 65535) ∧
    (args stateE2 3 0 0).a0 = 3 ∧ ((args stateE2 0 0 0).a0 ≠ 1 ∧ (args stateE2 0 0 0).a0 ≠ 2 ∧ (args stateE2 0 0 0).a0 ≠ 3) := by
  refine ⟨⟨?_, by decide, by decide⟩, ⟨?_, by decide, by decide⟩, by decide⟩ <;> constructor <;> decide

theorem witness_CfgEncodeEmitsTheConfigFrame_too_long :
    (args tooLong 1 0 0).Inv ∧ 65535 < configLength (args tooLong 1 0 0) := by
  refine ⟨?_, by decide⟩
  constructor <;> decide +kernel

theorem witness_ConfigFrameStatesItsSizeAndPassesItsCheck :
    (args stateE2 1 0 0).Inv ∧ ∃ t, exec .cfgEncode (args stateE2 1 0 0) = .next t ∧ t.status = 0 :=
  ⟨{ stateE2_inv with }, _, rfl, rfl⟩

theorem witness_HdrfBuildEmitsTheHeaderFrame :
    base.params.argBytes < (args base 65537 0 0).a0.toNat ∧
    (65519 < (args base 65520 0 0).a0.toNat ∧ (args base 65536 0 0).a0.toNat ≤ base.params.argBytes) ∧
    ((args base 65519 0 0).a0.toNat ≤ base.params.argBytes ∧ (args base 65519 0 0).a0.toNat ≤ 65519) := by decide

theorem witness_EveryEncodedFrameStatesItsSizeAndCrc :
    (bound.Inv ∧ isEncoder .dataEncode = true ∧ ∃ t, exec .dataEncode bound = .next t ∧ t.status = 0) ∧
    (isEncoder (.hdrfBuild true) = true ∧ ∃ t, exec (.hdrfBuild true) bound = .next t ∧ t.status = 0) :=
  ⟨⟨bound_inv, rfl, _, rfl, rfl⟩, rfl, _, rfl, rfl⟩

theorem witness_CmdClassifyGivesTheKind :
    ¬ Fits (args base 65535 2 0) ∧ (Fits (args rxV8 0 18 17) ∧ (args rxV8 0 18 17).a1.toNat < (args rxV8 0 18 17).a2.toNat + 2) ∧
    (Fits (args rxV8 0 18 16) ∧ (args rxV8 0 18 16).a2.toNat + 2 ≤ (args rxV8 0 18 16).a1.toNat) := by decide

theorem witness_DataBindTakesTheSnapshot :
    stateE2.pmus.length = stateE2.g.numPmu.toNat ∧ stateE2.params.bindAllocOk stateE2.bindRequest = true ∧
    (refusing stateE2).params.bindAllocOk (refusing stateE2).bindRequest = false := by decide

/-- V51 and V52: 24 bytes are needed without the common header, 40 with it. -/
theorem witness_DataDecodeReadsEveryValueAtItsPlace :
    stateE2.d.bound = false ∧ (bound.d.bound = true ∧ ¬ Fits (args bound 65535 2 0)) ∧
    (neededBytes (args bound 0 23 0) false = 24 ∧ (args bound 0 23 0).a1.toNat < 24) ∧
    (neededBytes (args bound 65496 40 0) true = 40 ∧ Fits (args bound 65496 40 0) ∧ 40 ≤ (args bound 65496 40 0).a1.toNat) ∧
    bound.samples[0]? = some sampleE2 := by decide

/-- `n` bound PMUs with the sample of V52. -/
def boundTimes (n : Half) : State :=
  { base with
    d := { bound := true, boundN := n, sampleValid := true, statValid := true }
    samples := List.replicate n.toNat sampleE2 }

theorem boundTimes_inv (n : Half) : (boundTimes n).Inv where
  params := show (params 7).wf = true by decide
  rxb := by rfl
  txb := by rfl
  argb := by rfl
  hb := by rfl
  numPmu := rfl
  maxPmu := Nat.zero_le _
  slots := fun x h => nomatch h
  boundN := List.length_replicate
  samples := fun x h => by rw [List.eq_of_mem_replicate h]; decide
  unbound := fun h => nomatch h
  statValid := fun _ => rfl
  status := Nat.zero_le _
  cur := rfl

theorem boundTimes_frameBytes (n : Half) : frameBytes (boundTimes n) = 16 + n.toNat * 26 := by
  simp [frameBytes, boundTimes, show blockBytes sampleE2 = 26 from rfl]

theorem witness_DataEncodeEmitsTheDataFrame :
    stateE2.Inv ∧ stateE2.d.bound = false ∧ bound.Inv ∧ bound.d.bound = true ∧ bound.d.sampleValid = true ∧
    bound.d.statValid = true ∧ frameBytes bound = 42 ∧ fresh.Inv ∧ fresh.d.sampleValid = false :=
  ⟨stateE2_inv, rfl, bound_inv, rfl, rfl, rfl, rfl, by constructor <;> decide, rfl⟩

theorem witness_DataEncodeEmitsTheDataFrame_too_long :
    (boundTimes 2520).Inv ∧ (boundTimes 2520).d.bound = true ∧ frameBytes (boundTimes 2520) = 65536 :=
  ⟨boundTimes_inv _, rfl, by rw [boundTimes_frameBytes]; decide⟩

theorem witness_EncodedDataFrameDecodesToTheSameSample :
    bound.Inv ∧ ∃ t, exec .dataEncode bound = .next t ∧ t.status = 0 := ⟨bound_inv, _, rfl, rfl⟩

/-- V52's frame in `RXB`, presented from its frame_size field on, and its timestamp in `G`. -/
def rxV52 : State :=
  args ({ bound with g := { globalE2 with fracOfSecond := 0x0F07A120 } }.writeBytes .rxb 0 frameV52) 2 40 0

theorem witness_DecodedDataFrameIsEncodedWithItsOwnBytes :
    rxV52.Inv ∧ (∃ t u, exec (.dataDecode true .rxb) rxV52 = .next t ∧ t.status = 0 ∧
      exec .dataEncode t = .next u ∧ u.status = 0) ∧
    rxV52.g.idCode = rxV52.read16 .rxb 4 ∧ rxV52.g.epochSeconds = rxV52.read32 .rxb 6 ∧
    rxV52.g.fracOfSecond = rxV52.read32 .rxb 10 :=
  ⟨by constructor <;> decide, ⟨_, _, rfl, rfl, rfl, rfl⟩, by decide, by decide, by decide⟩

theorem witness_DataSizeIsTheSizeFormula :
    stateE2.d.bound = false ∧ bound.d.bound = true ∧ bound.d.boundN.toNat < (2 : PmuIndex).toNat ∧
    1 ≤ (1 : PmuIndex).toNat ∧ (1 : PmuIndex).toNat ≤ bound.d.boundN.toNat ∧
    bound.samples[(1 : PmuIndex).toNat - 1]? = some sampleE2 := by decide

theorem witness_AccessorsReturnTheSampleValues :
    bound.d.bound = true ∧ 1 ≤ (1 : PmuIndex).toNat ∧ (1 : PmuIndex).toNat ≤ bound.d.boundN.toNat ∧
    bound.samples[(1 : PmuIndex).toNat - 1]? = some sampleE2 ∧ bound.d.sampleValid = true ∧ bound.d.statValid = true ∧
    sampleE2.ph[(args bound 3 0 0).a0.toNat - 1]? = some (.int16 5, .int16 6) ∧
    sampleE2.an[(args bound 1 0 0).a0.toNat - 1]? = some (.int16 10) ∧
    sampleE2.dig[(args bound 1 0 0).a0.toNat - 1]? = some 0x8001 := by decide

theorem witness_AccessorChecksComeInOrder :
    stateE2.d.bound = false ∧ (bound.d.bound = true ∧ bound.d.boundN.toNat < (2 : PmuIndex).toNat) ∧
    (fresh.d.bound = true ∧ fresh.samples[(1 : PmuIndex).toNat - 1]? = some sampleE2 ∧ (args fresh 0 0 0).a0.toNat = 0 ∧
      sampleE2.snapNst.toNat < (args fresh 2 0 0).a0.toNat ∧ (args fresh 1 0 0).a0.toNat ≤ sampleE2.snapNst.toNat ∧
      fresh.d.sampleValid = false ∧ fresh.d.statValid = false) := by decide

theorem witness_AFailedOperationChangesNothingElse :
    (∃ t, exec .dataEncode fresh = .next t ∧ t.status = 7) ∧
    ∃ t, exec .dataBind (refusing bound) = .next t ∧ t.status = 3 :=
  ⟨⟨_, rfl, rfl⟩, _, rfl, rfl⟩

theorem witness_OperationsLeaveTheHostsStateAlone : ∃ t, exec (.cfgGetStn 1) stateE2 = .next t ∧ t.r0 = 16 := ⟨_, rfl, rfl⟩

theorem witness_OnlyStoringOperationsWriteABuffer :
    (storesBytes .dataBind = false ∧ ∃ t, exec .dataBind stateE2 = .next t) ∧
    (∃ t, exec .dataEncode fresh = .next t ∧ t.status ≠ 0) ∧ isEncoder (.cfgGetStn 1) = false :=
  ⟨⟨rfl, _, rfl⟩, ⟨_, rfl, by decide⟩, rfl⟩

theorem witness_CodecAndConfigurationAreWrittenApart :
    (writesCodec .cfgSetGid = false ∧ ∃ t, exec .cfgSetGid bound = .next t) ∧
    (writesConfig .dataBind = false ∧ ∃ t, exec .dataBind bound = .next t) := ⟨⟨rfl, _, rfl⟩, rfl, _, rfl⟩

theorem witness_SnapshotHidesLaterConfigurationChanges :
    (∃ t, exec (.dataGetFreq 1) bound = .next t ∧ t.status = 0) ∧ ∃ t, exec .dataEncode bound = .next t ∧ t.status = 0 :=
  ⟨⟨_, rfl, rfl⟩, _, rfl, rfl⟩

theorem witness_EarlierResultsDoNotMatter : ∃ t, exec .dataEncode bound = .next t ∧ t.status = 0 := ⟨_, rfl, rfl⟩

theorem witness_StoredFieldsReadBackBigEndian :
    ¬ (Buffer.rxb = .rxb ∧ 4 ≤ 3 ∧ 3 < 4 + 4) ∧ ¬ (Buffer.rxb = .rxb ∧ 4 ≤ 8 ∧ 8 < 4 + 4) ∧
    ¬ (Buffer.txb = .rxb ∧ 4 ≤ 5 ∧ 5 < 4 + 4) := by decide

end Sys2Proof.Tests
end

section
/-! The host address space: a store or a read by address, as the access of the place that sits there (R6, R72). -/

namespace Sys2Proof.Machine

variable {s : State} {c : Params} {rest : List HostAccess} {addr : Nat}

/-! ### What a place holds -/

/-- The extent of a place in the form O7 spells it: each buffer its size, a register one address. -/
theorem placeExtent_eq_ite (c : Params) (q : HostPlace) :
    placeExtent c q = if q = .rxb ∨ q = .txb then c.bufBytes else if q = .argb then c.argBytes
      else if q = .hb then 4 else 1 := by cases q <;> rfl

theorem placeHolds_iff (c : Params) (q : HostPlace) (addr : Nat) :
    placeHolds c q addr = true ↔ c.addresses.address q ≤ addr ∧ addr < c.addresses.address q +
      if q = .rxb ∨ q = .txb then c.bufBytes else if q = .argb then c.argBytes else if q = .hb then 4 else 1 := by
  rw [← placeExtent_eq_ite, placeHolds, decide_eq_true_iff]

/-! ### The access that a store by address is -/

/-- The place of an operand register, as `bufferPlace` is that of a buffer. -/
def operandPlace : OperandReg → HostPlace
  | .a0 => .a0
  | .a1 => .a1
  | .a2 => .a2

theorem wordAccess_cmd (w : Word) (hp : placeAt c addr = some .cmd) : wordAccess c addr w = .writeCmd w := by
  simp [wordAccess, hp]

theorem wordAccess_operand (r : OperandReg) (w : Word) (hp : placeAt c addr = some (operandPlace r)) :
    wordAccess c addr w = .writeOperand r w := by cases r <;> simp [wordAccess, hp, operandPlace]

/-- A word store to anything but `CMD` and the operand registers, or to nothing, stays a store. -/
theorem wordAccess_of_ne (w : Word) (hcmd : placeAt c addr ≠ some .cmd)
    (hop : ∀ r, placeAt c addr ≠ some (operandPlace r)) : wordAccess c addr w = .storeWord addr w := by
  unfold wordAccess
  split
  case h_1 h => exact absurd h hcmd
  case h_2 h => exact absurd h (hop .a0)
  case h_3 h => exact absurd h (hop .a1)
  case h_4 h => exact absurd h (hop .a2)
  case h_5 => rfl

theorem byteAccess_buffer (b : Buffer) (v : Byte) (hp : placeAt c addr = some (bufferPlace b)) :
    byteAccess c addr v = .writeByte b (addr - c.addresses.address (bufferPlace b)) v := by
  cases b <;> simp [byteAccess, hp, bufferPlace, RegisterMap.address]

/-- A byte store to anything but a buffer, or to nothing, stays a store. -/
theorem byteAccess_of_ne (v : Byte) (h : ∀ b, placeAt c addr ≠ some (bufferPlace b)) :
    byteAccess c addr v = .storeByte addr v := by
  unfold byteAccess
  split
  case h_1 hp => exact absurd hp (h .rxb)
  case h_2 hp => exact absurd hp (h .txb)
  case h_3 hp => exact absurd hp (h .argb)
  case h_4 hp => exact absurd hp (h .hb)
  case h_5 => rfl

/-! ### The step that a store by address is -/

/-- An access does not see the accesses that the state still lists: it sets them to `rest`. -/
theorem runAccess_withHost (host : List HostAccess) (access : HostAccess) :
    runAccess { s with host := host } rest access = runAccess s rest access := by cases access <;> rfl

/-- The step on a state whose next access is put there. -/
theorem step_withHost_cons (access : HostAccess) :
    step { s with host := access :: rest } = runAccess s rest (resolveAccess s.params access) := by
  rw [step_access rfl, runAccess_withHost]

theorem step_storeWord_cmd {w : Word} (h : s.host = .storeWord addr w :: rest)
    (hp : placeAt s.params addr = some .cmd) : step s = step { s with host := .writeCmd w :: rest } := by
  rw [step_access h, step_withHost_cons, resolveAccess, wordAccess_cmd w hp, resolveAccess_writeCmd]

theorem step_storeWord_operand (r : OperandReg) {w : Word} (h : s.host = .storeWord addr w :: rest)
    (hp : placeAt s.params addr = some (operandPlace r)) :
    step s = .next ({ s with host := rest }.withOperand r w) := by
  rw [step_access h, resolveAccess, wordAccess_operand r w hp]
  rfl

theorem step_storeWord_of_ne {w : Word} (h : s.host = .storeWord addr w :: rest)
    (hcmd : placeAt s.params addr ≠ some .cmd) (hop : ∀ r, placeAt s.params addr ≠ some (operandPlace r)) :
    step s = .fault (.noHostAddress addr) := by
  rw [step_access h, resolveAccess, wordAccess_of_ne w hcmd hop]
  rfl

theorem step_storeByte_buffer (b : Buffer) {v : Byte} (h : s.host = .storeByte addr v :: rest)
    (hp : placeAt s.params addr = some (bufferPlace b)) :
    step s = step { s with
      host := .writeByte b (addr - s.params.addresses.address (bufferPlace b)) v :: rest } := by
  rw [step_access h, step_withHost_cons, resolveAccess, byteAccess_buffer b v hp, resolveAccess_writeByte]

theorem step_storeByte_of_ne {v : Byte} (h : s.host = .storeByte addr v :: rest)
    (hb : ∀ b, placeAt s.params addr ≠ some (bufferPlace b)) : step s = .fault (.noHostAddress addr) := by
  rw [step_access h, resolveAccess, byteAccess_of_ne v hb]
  rfl

/-! ### A read by address -/

theorem hostRead_buffer (b : Buffer) (hp : placeAt s.params addr = some (bufferPlace b)) :
    s.hostRead addr = some ((s.readByte b (addr - s.params.addresses.address (bufferPlace b))).setWidth 32) := by
  rw [State.hostRead, hp]
  cases b <;> rfl

theorem hostRead_none (hp : placeAt s.params addr = none) : s.hostRead addr = none := by
  rw [State.hostRead, hp, Option.map_none]

/-- Settles O7: the one place that holds the address is what `placeAt` finds there; then one case for each place. -/
theorem hostAddressesReachWhatSitsThere : Obligations.HostAddressesReachWhatSitsThere := by
  intro s rest addr p m holds read wordStored byteStored seen
  refine ⟨fun hp unique => ?_, fun hnone => ?_⟩
  · have found : placeAt s.params addr = some p :=
      placeAt_eq_some ((placeHolds_iff s.params p addr).2 hp)
        fun q hq => unique q ((placeHolds_iff s.params q addr).1 hq)
    refine ⟨fun w h => ?_, fun v h => ?_, ?_⟩
    · cases p with
      | cmd => exact step_storeWord_cmd h found
      | a0 => exact step_storeWord_operand .a0 h found
      | a1 => exact step_storeWord_operand .a1 h found
      | a2 => exact step_storeWord_operand .a2 h found
      | _ => exact step_storeWord_of_ne h (by simp [found]) fun r => by cases r <;> simp [found, operandPlace]
    · cases p with
      | rxb => exact step_storeByte_buffer .rxb h found
      | txb => exact step_storeByte_buffer .txb h found
      | argb => exact step_storeByte_buffer .argb h found
      | hb => exact step_storeByte_buffer .hb h found
      | _ => exact step_storeByte_of_ne h fun b => by cases b <;> simp [found, bufferPlace]
    · cases p with
      | rxb => exact hostRead_buffer .rxb found
      | txb => exact hostRead_buffer .txb found
      | argb => exact hostRead_buffer .argb found
      | hb => exact hostRead_buffer .hb found
      | _ => rw [State.hostRead, found]; rfl
  · have found : placeAt s.params addr = none := placeAt_eq_none fun q =>
      Bool.eq_false_iff.2 fun hq => hnone q ((placeHolds_iff s.params q addr).1 hq)
    exact ⟨fun w h => step_storeWord_of_ne h (by simp [found]) (by simp [found]),
      fun v h => step_storeByte_of_ne h (by simp [found]), hostRead_none found⟩

end Sys2Proof.Machine
end

section
/-! Slots that stay well formed (R44, R45, R51), and the lengths of the frames that the encoders emit (R111 to R116, R302). -/

namespace Sys2Proof.Machine

/-! ### The parameters -/

theorem Params.wf_iff {c : Params} : c.wf = true ↔
    (c.crcShift3 = 7 ∨ c.crcShift3 = 12) ∧ c.bufBytes = 65536 ∧ c.argBytes = 65536 ∧
    (1 ≤ c.maxPmu ∧ c.maxPmu ≤ 65535) ∧ (1 ≤ c.maxPhasors ∧ c.maxPhasors ≤ 65535) ∧
    c.maxAnalogs ≤ 65535 ∧ c.maxStatus ≤ 65535 ∧
    (c.namesPerStatusWord = 16 ∨ c.namesPerStatusWord = 1) ∧
    (∀ b ∈ [c.fmtCoordBit, c.fmtPhwBit, c.fmtAnwBit, c.fmtFqwBit], b < 16) ∧
    [c.fmtCoordBit, c.fmtPhwBit, c.fmtAnwBit, c.fmtFqwBit].Nodup := decide_eq_true_iff

theorem EntryArray.capacity_le {c : Params} (arr : EntryArray) (h : c.wf = true) : arr.capacity c ≤ 65535 := by
  obtain ⟨-, -, -, -, ⟨-, hph⟩, han, hst, -⟩ := Params.wf_iff.1 h
  cases arr with
  | phasor => exact hph
  | analog => exact han
  | mask => exact hst

/-- A count below 2^16 is kept by the 16-bit register it is written to. -/
theorem toNat_setWidth16 {w : Word} (h : w.toNat < 65536) : (w.setWidth 16).toNat = w.toNat := by
  rw [BitVec.toNat_setWidth]; exact Nat.mod_eq_of_lt h

/-! ### A slot that stays well formed -/

theorem PmuSlot.wf_iff {c : Params} {x : PmuSlot} : x.wf c = true ↔
    x.convFactorPhasor.length = x.numPhasors.toNat ∧ x.convFactorAnalog.length = x.numAnalogs.toNat ∧
    x.statusWordMasks.length = x.numStatusWords.toNat ∧ x.numPhasors.toNat ≤ c.maxPhasors ∧
    x.numAnalogs.toNat ≤ c.maxAnalogs ∧ x.numStatusWords.toNat ≤ c.maxStatus ∧
    x.namesBound = decide (x.namesHandle ≠ 0) := decide_eq_true_iff

theorem freshSlot_wf (c : Params) : (freshSlot c).wf c = true := by simp [PmuSlot.wf_iff, freshSlot]

/-- An array replaced by one of its length (R51). -/
theorem EntryArray.withEntries_wf {c : Params} {x : PmuSlot} (arr : EntryArray) {ws : List Word}
    (hlen : ws.length = (arr.entries x).length) (h : x.wf c = true) : (arr.withEntries x ws).wf c = true := by
  rw [PmuSlot.wf_iff] at h ⊢
  obtain ⟨hph, han, hst, hrest⟩ := h
  cases arr with
  | phasor => exact ⟨hlen.trans hph, han, hst, hrest⟩
  | analog => exact ⟨hph, hlen.trans han, hst, hrest⟩
  | mask => exact ⟨hph, han, hlen.trans hst, hrest⟩

/-- An array resized within its capacity (R44, R51). -/
theorem EntryArray.resized_wf {c : Params} {x : PmuSlot} (arr : EntryArray) {n : Half} {ws : List Word}
    (hlen : ws.length = n.toNat) (hcap : n.toNat ≤ arr.capacity c) (h : x.wf c = true) :
    (arr.resized x n ws).wf c = true := by
  rw [PmuSlot.wf_iff] at h ⊢
  obtain ⟨hph, han, hst, cph, can, cst, hnames⟩ := h
  cases arr with
  | phasor => exact ⟨hlen, han, hst, hcap, can, cst, hnames⟩
  | analog => exact ⟨hph, hlen, hst, cph, hcap, cst, hnames⟩
  | mask => exact ⟨hph, han, hlen, cph, can, hcap, hnames⟩

/-- A handle stored with its binding bit (R45, R246). -/
theorem PmuSlot.withNames_wf {c : Params} {x : PmuSlot} (handle : Word) (h : x.wf c = true) :
    PmuSlot.wf c { x with namesHandle := handle, namesBound := handle ≠ 0 } = true := by
  rw [PmuSlot.wf_iff] at h ⊢
  obtain ⟨hph, han, hst, cph, can, cst, -⟩ := h
  exact ⟨hph, han, hst, cph, can, cst, rfl⟩

/-! ### The lengths of the three frames -/

/-- Items of one length. -/
theorem length_flatMap_of_length_eq {α β : Type} {f : α → List β} {k : Nat} (h : ∀ a, (f a).length = k) (l : List α) :
    (l.flatMap f).length = k * l.length := by
  simp [List.length_flatMap, h, Nat.mul_comm]

/-- A bound name list long enough gives the name block the length it is counted with (R112). -/
theorem namesBlock_length {s : State} {x : PmuSlot} (h : namesShort s x = false) :
    (namesBlock s x).length = namesLength s.params x := by
  unfold namesBlock namesLength
  split
  next hb =>
    have henough : channelCount s.params x ≤ (s.namesAt x.namesHandle).length := by
      rw [namesShort, hb, Bool.true_and, decide_eq_false_iff_not] at h
      exact Nat.not_lt.1 h
    rw [length_flatMap_of_length_eq (k := 16) (by simp), List.length_take, Nat.min_eq_left henough]
  next => rfl

/-- A PMU's block of a CONFIG frame has the length `B(p)` (R111). -/
theorem configBlock_length {s : State} {x : PmuSlot} (hwf : x.wf s.params = true) (h : namesShort s x = false) :
    (configBlock s x).length = configBlockLength s.params x := by
  obtain ⟨hph, han, hst, -⟩ := PmuSlot.wf_iff.1 hwf
  have hwords := length_flatMap_of_length_eq bytesBe32_length
  simp only [configBlock, configBlockLength, List.length_append, hwords, namesBlock_length h, hph, han, hst,
    bytesBe16_length, Vector.length_toList]
  omega

/-- The CONFIG frame's trailer ends it at `L` (R113). -/
theorem configBody_length {s : State} (hwf : ∀ x ∈ s.pmus, x.wf s.params = true)
    (h : s.pmus.any (namesShort s) = false) (sync : Half) : (configBody s sync).length + 2 = configLength s := by
  have hshort : ∀ x ∈ s.pmus, namesShort s x = false := by simpa using h
  have hblocks : (s.pmus.flatMap (configBlock s)).length = (s.pmus.map (configBlockLength s.params)).sum := by
    rw [List.length_flatMap, List.map_congr_left fun x hx => configBlock_length (hwf x hx) (hshort x hx)]
  simp only [configBody, configLength, List.length_append, hblocks, commonHeader_length, bytesBe16_length,
    bytesBe32_length]
  omega

/-- The HEADER frame's body is the common header and the text (R116). -/
@[simp] theorem headerBody_length (s : State) (n : Nat) : (headerBody s n).length = 14 + n := by
  simp [headerBody]

@[simp] theorem emitValue_length (wide : Bool) (v : Value) : (emitValue wide v).length = widthOf wide := by
  cases wide <;> rfl

theorem SampleSlot.wf_iff {x : SampleSlot} : x.wf = true ↔
    (x.ph.length = x.snapNph.toNat ∧ x.an.length = x.snapNan.toNat ∧ x.dig.length = x.snapNst.toNat) ∧
    (∀ v ∈ x.ph, v.1.fits x.snapPhw = true ∧ v.2.fits x.snapPhw = true) ∧ (∀ v ∈ x.an, v.fits x.snapAnw = true) ∧
    x.fdev.fits x.snapFqw = true ∧ x.rocof.fits x.snapFqw = true := by
  simp only [SampleSlot.wf, Bool.and_eq_true, decide_eq_true_eq, List.all_eq_true, and_assoc]

/-- A PMU's block of a DATA frame has the length `DB(p)` (R302). -/
theorem dataBlock_length {x : SampleSlot} (h : x.wf = true) : (dataBlock x).length = blockBytes x := by
  obtain ⟨⟨hph, han, hdig⟩, -⟩ := SampleSlot.wf_iff.1 h
  have hpairs := length_flatMap_of_length_eq (k := 2 * widthOf x.snapPhw)
    (f := fun c : Value × Value => emitValue x.snapPhw c.1 ++ emitValue x.snapPhw c.2) (by simp [Nat.two_mul])
  have hvalues := length_flatMap_of_length_eq (emitValue_length x.snapAnw)
  have hhalves := length_flatMap_of_length_eq bytesBe16_length
  simp only [dataBlock, blockBytes, List.length_append, hpairs, hvalues, hhalves, hph, han, hdig, emitValue_length,
    bytesBe16_length]
  omega

/-- The DATA frame's trailer ends it at `FRAME` (R302). -/
theorem dataBody_length {s : State} (h : ∀ x ∈ s.samples, x.wf = true) : (dataBody s).length + 2 = frameBytes s := by
  have hblocks : (s.samples.flatMap dataBlock).length = (s.samples.map blockBytes).sum := by
    rw [List.length_flatMap, List.map_congr_left fun x hx => dataBlock_length (h x hx)]
  simp only [dataBody, frameBytes, List.length_append, hblocks, commonHeader_length]
  omega
end Sys2Proof.Machine
end

section
/-! What an operation can do to the machine, over every instruction at once (R70, R177, R200, R260, R300, R305, R341). -/

namespace Sys2Proof.Machine

variable {i : Instr} {s t : State}

/-- The ways `i` can leave the machine. Each names the class of operations that have it; slots are replaced by slots that
stay well formed, and a frame fits `TX_LEN` whenever the machine meets its invariant. -/
inductive Effect (i : Instr) (s : State) : State → Prop
  /-- It fails (R341). -/
  | failed (e : Failure) : Effect i s (s.fail e)
  /-- The bind fails: the codec is left unbound (R300). -/
  | unbound (hi : i = .dataBind) : Effect i s ((s.withCodec Codec.unbound []).fail .allocationFailure)
  /-- It gives its results. -/
  | results (x y : Word) : Effect i s (s.ended 0 x y)
  /-- It writes `G`, but not the table's size. -/
  | global (hi : writesConfig i = true) {g : Global} (hn : g.numPmu = s.g.numPmu) :
      Effect i s ((s.withG g).ended 0 0 0)
  /-- It resizes the table (R201). -/
  | resized (hi : writesConfig i = true) (hcap : s.a0.toNat ≤ s.params.maxPmu) : Effect i s
      ((({ s with
          pmus := s.pmus.take s.a0.toNat ++
            List.replicate (s.a0.toNat - s.g.numPmu.toNat) (freshSlot s.params) } : State).withG
        { s.g with numPmu := s.a0.setWidth 16 }).ended 0 0 0)
  /-- It replaces one slot. -/
  | slot (hi : writesConfig i = true) {p : PmuIndex} {x x' : PmuSlot} (hx : s.slot p = some x)
      (hwf : s.params.wf = true → x.wf s.params = true → x'.wf s.params = true) (r0 : Word) :
      Effect i s ((s.withSlot p x').ended 0 r0 0)
  /-- It updates every slot (R259). -/
  | everySlot (hi : writesConfig i = true) {f : PmuSlot → PmuSlot}
      (hwf : ∀ x : PmuSlot, x.wf s.params = true → (f x).wf s.params = true) :
      Effect i s ((s.withPmus (s.pmus.map f)).ended 0 0 0)
  /-- It copies a station name to `ARGB[0..16)` (R216). -/
  | stationName {p : PmuIndex} (hi : i = .cfgGetStn p) (name : Name16) :
      Effect i s ((s.writeBytes .argb 0 name.toList).ended 0 16 0)
  /-- It emits a frame (R260, R280, R307). -/
  | frame (hi : isEncoder i = true) {f : Bytes} (hlen : s.Inv → f.length ≤ 65535) :
      Effect i s ((s.emitFrame f).ended 0 (BitVec.ofNat 32 f.length) 0)
  /-- It binds the codec to the configuration (R300). -/
  | bound (hi : writesCodec i = true) : Effect i s
      ((({ s with binds := s.binds + 1 } : State).withCodec
        { bound := true, boundN := s.g.numPmu, sampleValid := false, statValid := false }
        (bindSlots s.binds 1 s.pmus)).ended 0 (s.g.numPmu.setWidth 32) 0)
  /-- It decodes a sample (R305). -/
  | decoded (hi : writesCodec i = true) (hbound : s.d.bound = true) (b : Buffer) (ich : Bool) (cur : Nat) (r0 : Word) :
      Effect i s ((s.decoded ich (takeBlocks s b ich s.samples cur).1).ended 0 r0 0)

/-! ### The shared operations -/

theorem Effect.of_failed {e : Failure} (h : s.failed e = .next t) : Effect i s t := by
  rw [failed_next h]; exact .failed e

theorem Effect.of_done {x y : Word} (h : s.done x y = .next t) : Effect i s t := by
  rw [done_next h]; exact .results x y

theorem Effect.of_global (hi : writesConfig i = true) {g : Global} (h : (s.withG g).done 0 0 = .next t)
    (hn : g.numPmu = s.g.numPmu) : Effect i s t := by
  rw [done_next h]; exact .global hi hn

theorem Effect.of_onSlot {p : PmuIndex} {body : PmuSlot → Result} (h : onSlot s p body = .next t)
    (hbody : ∀ x, s.slot p = some x → body x = .next t → Effect i s t) : Effect i s t := by
  obtain ⟨-, rfl⟩ | ⟨x, hx, h⟩ := onSlot_next h
  · exact .failed _
  · exact hbody x hx h

theorem Effect.of_getSlot {p : PmuIndex} {field : PmuSlot → Word} (h : getSlot s p field = .next t) :
    Effect i s t := Effect.of_onSlot h fun _ _ h => .of_done h

theorem Effect.of_slot (hi : writesConfig i = true) {p : PmuIndex} {x x' : PmuSlot} {r0 : Word}
    (hx : s.slot p = some x) (hwf : x.wf s.params = true → x'.wf s.params = true)
    (h : (s.withSlot p x').done r0 0 = .next t) : Effect i s t := by
  rw [done_next h]; exact .slot hi hx (fun _ => hwf) r0

theorem Effect.of_setSlot (hi : writesConfig i = true) {p : PmuIndex} {update : PmuSlot → PmuSlot}
    (h : setSlot s p update = .next t) (hwf : ∀ x : PmuSlot, x.wf s.params = true → (update x).wf s.params = true) :
    Effect i s t := Effect.of_onSlot h fun x hx h => .of_slot hi hx (hwf x) h

/-- The resize law: the count in `A0` is inside the capacity, which fits 16 bits. -/
theorem Effect.of_resizeEntries (hi : writesConfig i = true) {arr : EntryArray} {p : PmuIndex}
    (h : resizeEntries s arr p = .next t) : Effect i s t := by
  obtain ⟨-, rfl⟩ | ⟨x, hx, ⟨-, rfl⟩ | ⟨-, -, rfl⟩ | ⟨hcap, -, rfl⟩⟩ := resizeEntries_next h
  · exact .failed _
  · exact .failed _
  · exact .results 0 0
  · refine .slot hi hx (fun hp => ?_) 0
    have hn : (s.a0.setWidth 16).toNat = s.a0.toNat :=
      toNat_setWidth16 (Nat.lt_succ_of_le (hcap.trans (arr.capacity_le hp)))
    exact arr.resized_wf (by rw [List.length_replicate, hn]) (hn ▸ hcap)

theorem Effect.of_setEntries (hi : writesConfig i = true) {arr : EntryArray} {p : PmuIndex} {scope : Scope}
    {upd : Word → Word} (h : setEntries s arr p scope upd = .next t) : Effect i s t := by
  obtain ⟨e, rfl⟩ | ⟨-, x, hx, -, rfl⟩ | ⟨-, x, hx, rfl⟩ | ⟨-, rfl⟩ := setEntries_next h
  · exact .failed e
  · exact .slot hi hx (fun _ => arr.withEntries_wf (by simp)) 0
  · exact .slot hi hx (fun _ => arr.withEntries_wf (by simp)) 0
  · exact .everySlot hi fun x => arr.withEntries_wf (by simp)

theorem Effect.of_getEntry {arr : EntryArray} {p : PmuIndex} {result : Word → Word}
    (h : getEntry s arr p result = .next t) : Effect i s t := by
  obtain rfl | ⟨x, -, -, rfl⟩ := getEntry_next h
  · exact .failed _
  · exact .results _ _

theorem Effect.of_extraction {need : Nat} {body : Result} (h : extraction s need body = .next t)
    (hbody : body = .next t → Effect i s t) : Effect i s t := by
  obtain rfl | rfl | ⟨-, -, h⟩ := extraction_next h
  · exact .failed _
  · exact .failed _
  · exact hbody h

theorem Effect.of_accessSample {p : PmuIndex} {valid : Bool} {result : SampleSlot → Word}
    (h : accessSample s p valid (fun x => s.done (result x) 0) = .next t) : Effect i s t := by
  obtain ⟨e, rfl⟩ | ⟨x, -, -, -, h⟩ := accessSample_next h
  · exact .failed e
  · exact .of_done h

theorem Effect.of_accessEntry {α : Type} {p : PmuIndex} {count : SampleSlot → Half} {entries : SampleSlot → List α}
    {r0 r1 : α → Word} (h : accessEntry s p count entries (fun v => s.done (r0 v) (r1 v)) = .next t) :
    Effect i s t := by
  obtain ⟨e, rfl⟩ | ⟨x, v, -, -, -, -, -, h⟩ := accessEntry_next h
  · exact .failed e
  · exact .of_done h

/-- An operation's check: it fails, or goes on. -/
theorem Effect.of_check {c : Prop} [Decidable c] {e : Failure} {r : Result}
    (h : (if c then s.failed e else r) = .next t) (hr : ¬ c → r = .next t → Effect i s t) : Effect i s t := by
  split at h
  next => exact .of_failed h
  next hc => exact hr hc h

theorem Effect.of_frameDone (hi : isEncoder i = true) {f : Bytes} (hlen : s.Inv → f.length ≤ 65535)
    (h : s.frameDone f = .next t) : Effect i s t := by
  rw [frameDone_next h]; exact .frame hi hlen

/-! ### The operations of their own shape -/

theorem Effect.of_cfgSetPmuCount (h : execCfgSetPmuCount s = .next t) : Effect .cfgSetPmuCount s t :=
  .of_check h fun hcap h => by rw [done_next h]; exact .resized rfl (Nat.not_lt.1 hcap)

theorem Effect.of_cfgSetStn {p : PmuIndex} (h : execCfgSetStn p s = .next t) : Effect (.cfgSetStn p) s t :=
  .of_onSlot h fun _ hx h => .of_check h fun _ => .of_slot rfl hx id

theorem Effect.of_cfgGetStn {p : PmuIndex} (h : execCfgGetStn p s = .next t) : Effect (.cfgGetStn p) s t :=
  .of_onSlot h fun x _ h => by rw [done_next h]; exact .stationName rfl x.stationName

theorem Effect.of_cfgIncCcc {p : PmuIndex} (h : execCfgIncCcc p s = .next t) : Effect (.cfgIncCcc p) s t :=
  .of_onSlot h fun _ hx => .of_slot rfl hx id

theorem Effect.of_cfgSetNames {p : PmuIndex} (h : execCfgSetNames p s = .next t) : Effect (.cfgSetNames p) s t :=
  .of_onSlot h fun _ hx h => .of_check h fun _ => .of_slot rfl hx (PmuSlot.withNames_wf s.a0)

theorem Effect.of_hdrStamp (h : execHdrStamp s = .next t) : Effect .hdrStamp s t :=
  .of_check h fun _ h => .of_check h fun _ h => .of_global rfl h rfl

theorem Effect.of_crcCheck {hdr : Bool} {src : Source} (h : execCrcCheck hdr src s = .next t) :
    Effect (.crcCheck hdr src) s t :=
  .of_check h fun _ h => .of_check h fun _ h => by
    dsimp only at h
    split at h
    next => exact .of_done h
    next => exact .of_failed h

theorem Effect.of_cmdClassify {frame : Bool} {src : Source} (h : execCmdClassify frame src s = .next t) :
    Effect (.cmdClassify frame src) s t := by
  unfold execCmdClassify at h
  split at h
  next => exact .of_done h
  next => exact .of_check h fun _ h => .of_check h fun _ => .of_done

/-- CFG.ENCODE emits a frame of `L` bytes, checked against 65535 (R113, R260). -/
theorem Effect.of_cfgEncode (h : execCfgEncode s = .next t) : Effect .cfgEncode s t :=
  .of_check h fun _ h => .of_check h fun _ h => .of_check h fun hsize h => .of_check h fun hnames h =>
    .of_frameDone rfl (fun hinv => by
      rw [withTrailer_length, configBody_length hinv.slots (Bool.eq_false_iff.2 hnames)]
      exact Nat.not_lt.1 hsize) h

/-- HDRF.BUILD emits a frame of `16 + T` bytes, checked against 65535 (R116, R280). -/
theorem Effect.of_hdrfBuild {present : Bool} (h : execHdrfBuild present s = .next t) :
    Effect (.hdrfBuild present) s t :=
  .of_check h fun _ h => .of_check h fun _ h => .of_check h fun hsize h =>
    .of_frameDone rfl (fun _ => by rw [withTrailer_length, headerBody_length]; omega) h

theorem Effect.of_dataBind (h : execDataBind s = .next t) : Effect .dataBind s t := by
  unfold execDataBind at h
  split at h
  next => rw [failed_next h]; exact .unbound rfl
  next => rw [done_next h]; exact .bound rfl

theorem Effect.of_dataDecode {ich : Bool} {src : Source} (h : execDataDecode ich src s = .next t) :
    Effect (.dataDecode ich src) s t :=
  .of_check h fun hbound h => .of_check h fun _ h => .of_check h fun _ h => by
    rw [done_next h]; exact .decoded rfl (Bool.not_eq_false _ ▸ hbound) _ _ _ _

/-- DATA.ENCODE emits a frame of `FRAME` bytes, checked against 65535 (R302, R307). -/
theorem Effect.of_dataEncode (h : execDataEncode s = .next t) : Effect .dataEncode s t :=
  .of_check h fun _ h => .of_check h fun _ h => .of_check h fun hsize h =>
    .of_frameDone rfl (fun hinv => by
      rw [withTrailer_length, dataBody_length hinv.samples]
      exact Nat.not_lt.1 hsize) h

theorem Effect.of_dataSize {p : PmuIndex} (h : execDataSize p s = .next t) : Effect (.dataSize p) s t :=
  .of_check h fun _ h => by
    split at h
    next => exact .of_done h
    next =>
      split at h
      next => exact .of_failed h
      next => exact .of_done h

/-- Every operation has one of the effects. -/
theorem exec_effect (h : exec i s = .next t) : Effect i s t := by
  cases i with
  | crcCompute | crcGet => exact .of_check h fun _ => .of_done
  | crcCheck => exact .of_crcCheck h
  | hdrType => exact .of_extraction h fun h => .of_check h fun _ => .of_done
  | hdrSize | hdrIdcode | hdrSoc | hdrFrac => exact .of_extraction h .of_done
  | hdrStamp => exact .of_hdrStamp h
  | cfgSetPmuCount => exact .of_cfgSetPmuCount h
  | cfgSetGid | cfgSetTimeBase | cfgSetDataRate | cfgSetSoc | cfgSetFrac => exact .of_global rfl h rfl
  | cfgSetPid | cfgSetFnom | cfgSetCcc | cfgSetFmtCoord | cfgSetFmtPhw | cfgSetFmtAnw | cfgSetFmtFqw =>
    exact .of_setSlot rfl h fun _ => id
  | cfgSetStn => exact .of_cfgSetStn h
  | cfgGetStn => exact .of_cfgGetStn h
  | cfgIncCcc => exact .of_cfgIncCcc h
  | cfgSetNph | cfgSetNan | cfgSetNst => exact .of_resizeEntries rfl h
  | cfgSetNames => exact .of_cfgSetNames h
  | cfgGetPid | cfgGetFnom | cfgGetCcc | cfgGetNph | cfgGetNan | cfgGetNst | cfgGetFmtCoord | cfgGetFmtPhw
  | cfgGetFmtAnw | cfgGetFmtFqw => exact .of_getSlot h
  | cfgSetPhf | cfgSetPht | cfgSetAnf | cfgSetAnt | cfgSetMskn | cfgSetMskv =>
    dsimp only [exec] at h
    exact .of_setEntries rfl h
  | cfgGetPhf | cfgGetPht | cfgGetAnf | cfgGetAnt | cfgGetMskn | cfgGetMskv =>
    dsimp only [exec] at h
    exact .of_getEntry h
  | cfgEncode => exact .of_cfgEncode h
  | hdrfBuild => exact .of_hdrfBuild h
  | cmdClassify => exact .of_cmdClassify h
  | dataBind => exact .of_dataBind h
  | dataDecode => exact .of_dataDecode h
  | dataEncode => exact .of_dataEncode h
  | dataSize => exact .of_dataSize h
  | dataGetPhasor | dataGetAnalog | dataGetDig => exact .of_accessEntry h
  | dataGetFreq | dataGetRocof | dataGetStat => exact .of_accessSample h
  | _ => exact .of_done h

end Sys2Proof.Machine
end

section
/-! The invariant: each named update of the state keeps it, hence every operation, every access of the host and every step
(R24, R32, R44, R45, R51, R56 to R58, R60, R340). -/

namespace Sys2Proof.Machine

variable {i : Instr} {s t : State}

/-! ### The named updates -/

theorem Failure.code_le (e : Failure) : e.code.toNat ≤ 14 := by cases e <;> decide

theorem State.Inv.ended (h : s.Inv) {st : Byte} (hst : st.toNat ≤ 14) (x y : Word) : (s.ended st x y).Inv :=
  { h with status := hst }

theorem State.Inv.fail (h : s.Inv) (e : Failure) : (s.fail e).Inv := h.ended e.code_le 0 0

theorem State.Inv.done (h : s.Inv) (x y : Word) : (s.ended 0 x y).Inv := h.ended (st := 0) (Nat.zero_le 14) x y

theorem State.Inv.withG (h : s.Inv) {g : Global} (hn : g.numPmu = s.g.numPmu) : (s.withG g).Inv :=
  { h with
    numPmu := h.numPmu.trans (congrArg BitVec.toNat hn.symm)
    maxPmu := (congrArg BitVec.toNat hn).le.trans h.maxPmu }

theorem State.Inv.withPmus (h : s.Inv) {ps : List PmuSlot} (hlen : ps.length = s.pmus.length)
    (hwf : ∀ x ∈ ps, x.wf s.params = true) : (s.withPmus ps).Inv :=
  { h with numPmu := hlen.trans h.numPmu, slots := hwf }

theorem State.Inv.withSlot (h : s.Inv) {x : PmuSlot} (hwf : x.wf s.params = true) (p : PmuIndex) :
    (s.withSlot p x).Inv :=
  h.withPmus List.length_set fun _ hy => (List.mem_or_eq_of_mem_set hy).elim (h.slots _) fun e => e ▸ hwf

/-- The slot that an index names is well formed. -/
theorem State.Inv.slot_wf (h : s.Inv) {p : PmuIndex} {x : PmuSlot} (hx : s.slot p = some x) : x.wf s.params = true :=
  h.slots x (slot_mem hx)

/-- The table resized (R201): its first slots, then fresh ones. -/
theorem State.Inv.resized (h : s.Inv) (hcap : s.a0.toNat ≤ s.params.maxPmu) :
    (({ s with
        pmus := s.pmus.take s.a0.toNat ++
          List.replicate (s.a0.toNat - s.g.numPmu.toNat) (freshSlot s.params) } : State).withG
      { s.g with numPmu := s.a0.setWidth 16 }).Inv := by
  obtain ⟨-, -, -, ⟨-, hmax⟩, -⟩ := Params.wf_iff.1 h.params
  have hn : (s.a0.setWidth 16).toNat = s.a0.toNat := toNat_setWidth16 (by omega)
  refine { h with numPmu := ?_, maxPmu := hn.trans_le hcap, slots := fun x hx => ?_ }
  · have hlen := h.numPmu
    simp only [State.withG, List.length_append, List.length_take, List.length_replicate, hn]
    omega
  · rcases List.mem_append.1 hx with hx | hx
    · exact h.slots x (List.mem_of_mem_take hx)
    · exact (List.eq_of_mem_replicate hx) ▸ freshSlot_wf s.params

/-- Each buffer is canonical and inside its size. -/
theorem State.Inv.mem_wf (h : s.Inv) (b : Buffer) : Memory.wf (s.params.size b) (s.mem b) = true := by
  cases b with
  | rxb => exact h.rxb
  | txb => exact h.txb
  | argb => exact h.argb
  | hb => exact h.hb

theorem State.Inv.withMem (h : s.Inv) {b : Buffer} {m : Memory} (hm : Memory.wf (s.params.size b) m = true) :
    (s.withMem b m).Inv := by
  cases b with
  | rxb => exact { h with rxb := hm }
  | txb => exact { h with txb := hm }
  | argb => exact { h with argb := hm }
  | hb => exact { h with hb := hm }

theorem State.Inv.writeBytes (h : s.Inv) {b : Buffer} {a : Nat} {bs : Bytes} (hfit : a + bs.length ≤ s.params.size b) :
    (s.writeBytes b a bs).Inv := h.withMem (Memory.wf_insertBytes hfit (h.mem_wf b))

/-- `ARGB` has room for a station name (R6, R216). -/
theorem State.Inv.writeName (h : s.Inv) (name : Name16) : (s.writeBytes .argb 0 name.toList).Inv := by
  obtain ⟨-, -, harg, -⟩ := Params.wf_iff.1 h.params
  exact h.writeBytes (by simp [Params.size, harg])

/-- `TXB` has room for a frame whose length `TX_LEN` can hold (R25, R60). -/
theorem State.Inv.emitFrame (h : s.Inv) {f : Bytes} (hlen : f.length ≤ 65535) : (s.emitFrame f).Inv := by
  obtain ⟨-, hbuf, -⟩ := Params.wf_iff.1 h.params
  have hfit : 0 + f.length ≤ s.params.size .txb := by simp only [Params.size]; omega
  exact { h with
    txb := Memory.wf_insertBytes hfit h.txb
    cur := rfl }

theorem State.Inv.unbindCodec (h : s.Inv) : (s.withCodec Codec.unbound []).Inv :=
  { h with
    boundN := rfl
    samples := nofun
    unbound := fun _ => ⟨rfl, rfl, rfl⟩
    statValid := nofun }

theorem Value.ofWord_fits (wide : Bool) (w : Word) : (Value.ofWord wide w).fits wide = true := by cases wide <;> rfl

@[simp] theorem unsetList_length {α : Type} (n : Half) (reg : Nat → α) : (unsetList n reg).length = n.toNat := by
  simp [unsetList]

theorem unsetList_forall {α : Type} {P : α → Prop} {reg : Nat → α} (h : ∀ k, P (reg k)) (n : Half) :
    ∀ v ∈ unsetList n reg, P v := by
  intro v hv
  obtain ⟨k, -, rfl⟩ := List.mem_map.1 hv
  exact h _

/-- A snapshot's fresh registers have its counts and widths (R56, R300). -/
theorem bindSlot_wf (bind p : Nat) (x : PmuSlot) : (bindSlot bind p x).wf = true := by
  rw [SampleSlot.wf_iff]
  dsimp only [bindSlot]
  exact ⟨by simp, unsetList_forall (fun _ => ⟨Value.ofWord_fits _ _, Value.ofWord_fits _ _⟩) _,
    unsetList_forall (P := (Value.fits x.fmtAnw · = true)) (fun _ => Value.ofWord_fits _ _) _,
    Value.ofWord_fits _ _, Value.ofWord_fits _ _⟩

theorem bindSlots_wf (bind p : Nat) (xs : List PmuSlot) : ∀ y ∈ bindSlots bind p xs, y.wf = true := by
  induction xs generalizing p with
  | nil => nofun
  | cons x xs ih =>
    intro y hy
    rcases List.mem_cons.1 hy with rfl | hy
    · exact bindSlot_wf bind p x
    · exact ih (p + 1) y hy

theorem State.Inv.bindCodec (h : s.Inv) (n : Nat) :
    (({ s with binds := n } : State).withCodec
      { bound := true, boundN := s.g.numPmu, sampleValid := false, statValid := false }
      (bindSlots s.binds 1 s.pmus)).Inv :=
  { h with
    boundN := (bindSlots_length _ _ _).trans h.numPmu
    samples := bindSlots_wf _ _ _
    unbound := nofun
    statValid := nofun }

/-- A decoded block has the snapshot's counts and widths (R57, R305). -/
theorem takeBlock_wf (s : State) (b : Buffer) (ich : Bool) (x : SampleSlot) (cur : Nat) :
    (takeBlock s b ich x cur).1.wf = true :=
  SampleSlot.wf_iff.2 ⟨⟨takeMany_length _ _ _, takeMany_length _ _ _, takeMany_length _ _ _⟩,
    takeMany_forall (fun _ => ⟨takeValue_fits _ _ _ _, takeValue_fits _ _ _ _⟩) _ _,
    takeMany_forall (fun _ => takeValue_fits _ _ _ _) _ _, takeValue_fits _ _ _ _, takeValue_fits _ _ _ _⟩

theorem takeBlocks_wf (s : State) (b : Buffer) (ich : Bool) (xs : List SampleSlot) (cur : Nat) :
    ∀ y ∈ (takeBlocks s b ich xs cur).1, y.wf = true := by
  induction xs generalizing cur with
  | nil => nofun
  | cons x xs ih =>
    intro y hy
    rcases List.mem_cons.1 hy with rfl | hy
    · exact takeBlock_wf s b ich x cur
    · exact ih _ y hy

theorem State.Inv.decoded (h : s.Inv) (hbound : s.d.bound = true) (b : Buffer) (ich : Bool) (cur : Nat) :
    (s.decoded ich (takeBlocks s b ich s.samples cur).1).Inv :=
  { h with
    boundN := (takeBlocks_length _ _ _ _ _).trans h.boundN
    samples := takeBlocks_wf _ _ _ _ _
    unbound := fun hunbound => absurd (hbound.symm.trans hunbound) Bool.noConfusion
    statValid := fun _ => rfl
    cur := rfl }

/-! ### Every operation -/

theorem Effect.inv (h : s.Inv) (he : Effect i s t) : t.Inv := by
  cases he with
  | failed e => exact h.fail e
  | unbound => exact h.unbindCodec.fail .allocationFailure
  | results x y => exact h.done x y
  | global _ hn => exact (h.withG hn).done 0 0
  | resized _ hcap => exact (h.resized hcap).done 0 0
  | slot _ hx hwf r0 => exact (h.withSlot (hwf h.params (h.slot_wf hx)) _).done r0 0
  | everySlot _ hwf =>
    refine (h.withPmus (List.length_map _) fun y hy => ?_).done 0 0
    obtain ⟨x, hx, rfl⟩ := List.mem_map.1 hy
    exact hwf x (h.slots x hx)
  | stationName _ name => exact (h.writeName name).done 16 0
  | frame _ hlen => exact (h.emitFrame (hlen h)).done _ 0
  | bound => exact (h.bindCodec _).done _ 0
  | decoded _ hbound b ich cur r0 => exact (h.decoded hbound b ich cur).done r0 0

/-! ### The host's accesses -/

theorem State.Inv.latchCmd (h : s.Inv) (w : Word) (rest : List HostAccess) : (s.latchCmd w rest).Inv := { h with }

theorem State.Inv.withHost (h : s.Inv) (rest : List HostAccess) : State.Inv { s with host := rest } := { h with }

theorem State.Inv.withOperand (h : s.Inv) (r : OperandReg) (w : Word) : (s.withOperand r w).Inv := by
  cases r with
  | a0 => exact { h with }
  | a1 => exact { h with }
  | a2 => exact { h with }

theorem State.Inv.withNames (h : s.Inv) (handle : Word) (ns : List Name16) : (s.withNames handle ns).Inv := { h with }

/-- Reset in a run meets the invariant whatever the machine held: only the parameters are kept (R62, R370). -/
theorem afterReset_inv (hp : s.params.wf = true) : s.afterReset.Inv where
  params := hp
  rxb := Memory.wf_iff.2 ⟨.nil, nofun⟩
  txb := Memory.wf_iff.2 ⟨.nil, nofun⟩
  argb := Memory.wf_iff.2 ⟨.nil, nofun⟩
  hb := Memory.wf_iff.2 ⟨.nil, nofun⟩
  numPmu := rfl
  maxPmu := Nat.zero_le _
  slots := nofun
  boundN := rfl
  samples := nofun
  unbound _ := ⟨rfl, rfl, rfl⟩
  statValid := nofun
  status := Nat.zero_le _
  cur := rfl

theorem hostAccess_writeByte (s : State) (b : Buffer) (a : Nat) (v : Byte) : hostAccess s (.writeByte b a v) =
    if a < s.params.size b then .next (s.writeBytes b a [v]) else .fault (.noSuchAddress b a) := rfl

theorem hostAccess_inv {access : HostAccess} (h : s.Inv) (ht : hostAccess s access = .next t) : t.Inv := by
  cases access with
  | writeCmd w => cases ht; exact h
  | writeOperand r w => cases ht; exact h.withOperand r w
  | writeByte b a v =>
    rw [hostAccess_writeByte] at ht
    split at ht
    next hfit => cases ht; exact h.writeBytes hfit
    next => cases ht
  | setNames handle ns => cases ht; exact h.withNames handle ns
  | reset => cases ht; exact afterReset_inv h.params
  | storeWord => cases ht
  | storeByte => cases ht

/-- Settles O3: what the step ran, an operation, an illegal word or another access of the host, keeps the invariant. -/
theorem everyStepKeepsTheInvariant : Obligations.EveryStepKeepsTheInvariant := by
  intro s t h ht
  obtain ⟨-, rfl⟩ | ⟨access, rest, -, hrun⟩ := step_next ht
  · exact h
  · obtain ⟨w, i, -, -, hexec⟩ | ⟨w, -, hillegal⟩ | haccess := runAccess_next hrun
    · exact (exec_effect hexec).inv (h.latchCmd w rest)
    · rw [failed_next hillegal]; exact (h.latchCmd w rest).fail .illegalOp
    · exact hostAccess_inv (h.withHost rest) haccess

/-- The parameters at R6's values are in R6's ranges, whatever the OPEN ones are. -/
theorem configParams_wf : Config.params.wf = true := by
  refine Params.wf_iff.2 ⟨.inl rfl, rfl, rfl, ⟨?_, ?_⟩, ⟨?_, ?_⟩, ?_, ?_, .inl rfl, ?_, ?_⟩
  · exact Nat.le_add_left 1 _
  · exact Config.maxPmuLessOne.isLt
  · exact Nat.le_add_left 1 _
  · exact Config.maxPhasorsLessOne.isLt
  · exact Nat.le_of_lt_succ Config.maxAnalogsOpen.isLt
  · exact Nat.le_of_lt_succ Config.maxStatusOpen.isLt
  · decide
  · decide

/-- Settles O2. -/
theorem resetStateMeetsTheInvariant : Obligations.ResetStateMeetsTheInvariant :=
  { afterReset_inv (s := State.reset) configParams_wf with }

end Sys2Proof.Machine
end

section
/-! The host's state: what reset, a write of `CMD` and each other access of the host make of it, and that no operation
touches it (R20, R21, R52, R60, R62, R70, R370). -/

namespace Sys2Proof.Machine

variable {i : Instr} {s t : State} {rest : List HostAccess}

/-! ### One step by the host's access -/

theorem step_reset (h : s.host = .reset :: rest) : step s = .next (State.afterReset { s with host := rest }) :=
  step_access h

theorem step_writeOperand {r : OperandReg} {w : Word} (h : s.host = .writeOperand r w :: rest) :
    step s = .next (State.withOperand { s with host := rest } r w) := step_access h

theorem step_writeByte {b : Buffer} {a : Nat} {v : Byte} (h : s.host = .writeByte b a v :: rest)
    (ha : a < s.params.size b) : step s = .next (State.writeBytes { s with host := rest } b a [v]) :=
  (step_access h).trans (if_pos ha)

theorem step_writeByte_past {b : Buffer} {a : Nat} {v : Byte} (h : s.host = .writeByte b a v :: rest)
    (ha : s.params.size b ≤ a) : step s = .fault (.noSuchAddress b a) :=
  (step_access h).trans (if_neg (Nat.not_lt.2 ha))

theorem step_setNames {handle : Word} {ns : List Name16} (h : s.host = .setNames handle ns :: rest) :
    step s = .next (State.withNames { s with host := rest } handle ns) := step_access h

/-! ### The channel-name store -/

theorem namesAt_withNames_self (s : State) (h : Word) (ns : List Name16) : (s.withNames h ns).namesAt h = ns := by
  simp [State.namesAt]

theorem namesAt_withNames_other (s : State) {h h' : Word} (hne : h' ≠ h) (ns : List Name16) :
    (s.withNames h ns).namesAt h' = s.namesAt h' := by
  have hfind : (s.names.filter (·.1 ≠ h)).find? (·.1 = h') = s.names.find? (·.1 = h') := by
    rw [List.find?_filter]
    congr 1
    funext e
    by_cases he : e.1 = h' <;> simp [he, hne]
  rw [State.namesAt, State.withNames_names, List.find?_cons_of_neg (by simpa using hne.symm), hfind, State.namesAt]

/-- Settles O4. -/
theorem writingCmdRunsTheDecodedOperation : Obligations.WritingCmdRunsTheDecodedOperation := by
  intro s w rest i h hd
  rw [step_access h, resolveAccess_writeCmd, runAccess_ok hd]
  rfl

/-- Settles O1: both are `State.reset` but for the name store, the host, the parameters and the two counters. -/
theorem resetGivesEveryRegisterItsResetValue : Obligations.ResetGivesEveryRegisterItsResetValue := by
  refine ⟨fun t ht => ?_, fun s rest h => ⟨_, step_reset h, rfl, rfl, rfl⟩⟩
  have hreset : ∃ names host params resets binds, t = { State.reset with
      names := names, host := host, params := params, resets := resets, binds := binds } := by
    obtain rfl | ⟨s, rest, h, ht⟩ := ht
    · exact ⟨_, _, _, _, _, rfl⟩
    · rw [step_reset h] at ht
      cases ht
      exact ⟨_, _, _, _, _, rfl⟩
  obtain ⟨names, host, params, resets, binds, rfl⟩ := hreset
  exact ⟨rfl, rfl, rfl, rfl, rfl, rfl, rfl, rfl, rfl, rfl, rfl, rfl, rfl, rfl, rfl, rfl, rfl, rfl, rfl, rfl, rfl,
    fun b a => by cases b <;> rfl⟩

/-- Settles O6: one access at a time. -/
theorem hostAccessWritesItsTargetOnly : Obligations.HostAccessWritesItsTargetOnly := by
  intro s rest
  refine ⟨fun _ => step_writeOperand, fun _ => step_writeOperand, fun _ => step_writeOperand, fun b a v h ha => ?_,
    fun b a v => step_writeByte_past, fun handle ns h => ?_⟩
  · refine ⟨_, State.writeBytes { s with host := rest } b a [v], rfl, step_writeByte h ha, ?_, fun c x hne => ?_⟩
    · simp [State.readByte_writeBytes]
    · have hout : ¬ (c = b ∧ a ≤ x ∧ x - a < [v].length) := fun ⟨hc, hle, hlt⟩ =>
        hne ⟨hc, by simp only [List.length_singleton] at hlt; omega⟩
      exact (State.readByte_writeBytes _ b c a x [v]).trans (dif_neg hout)
  · exact ⟨_, step_setNames h, rfl, namesAt_withNames_self _ _ _, fun _ hne => namesAt_withNames_other _ hne ns⟩

/-! ### Operations -/

/-- No effect touches `CMD`, the operand registers, `RXB`, `HB`, the name store, the parameters or the host. -/
theorem Effect.host_eq (he : Effect i s t) :
    t.cmd = s.cmd ∧ t.a0 = s.a0 ∧ t.a1 = s.a1 ∧ t.a2 = s.a2 ∧ t.rxb = s.rxb ∧ t.hb = s.hb ∧ t.names = s.names ∧
    t.host = s.host ∧ t.params = s.params ∧ t.resets = s.resets := by
  cases he <;> exact ⟨rfl, rfl, rfl, rfl, rfl, rfl, rfl, rfl, rfl, rfl⟩

/-- Settles O54: each effect leaves those fields, and a buffer left alone reads as before. -/
theorem operationsLeaveTheHostsStateAlone : Obligations.OperationsLeaveTheHostsStateAlone := by
  intro i s t h
  obtain ⟨hcmd, ha0, ha1, ha2, hrxb, hhb, hnames, hhost, hparams, hresets⟩ := (exec_effect h).host_eq
  exact ⟨hcmd, ha0, ha1, ha2, hrxb, hhb, hnames, hhost, hparams, hresets, fun _ =>
    ⟨State.readByte_congr hrxb hresets, State.readByte_congr hhb hresets⟩⟩

end Sys2Proof.Machine
end

section
/-! The outputs of earlier operations: what an operation answers does not depend on the `STATUS`, `R0`, `R1` and `TX_LEN`
that it finds (R22, R23, R25). Both runs take the same branches; one rule for each shared operation says so. -/

namespace Sys2Proof.Machine

/-- The state with other values in the four registers that operations report in. -/
def State.withOutputs (s : State) (st : Byte) (x y : Word) (n : Half) : State :=
  { s with status := st, r0 := x, r1 := y, txLen := n }

/-- The answers of `i` on a state and on that state with other outputs, `n` its `TX_LEN`: they are equal but for a `TX_LEN`
that `i` leaves alone, as a successful encoder does not. -/
inductive SameAnswer (i : Instr) (s : State) (n : Half) : Result → Result → Prop
  | kept {t : State} (htx : t.txLen = s.txLen) (hi : isEncoder i = true → t.status ≠ 0) :
      SameAnswer i s n (.next t) (.next { t with txLen := n })
  | emitted (t : State) : SameAnswer i s n (.next t) (.next t)

theorem SameAnswer.of_not_encoder {i : Instr} {s t : State} {n : Half} (hi : isEncoder i = false)
    (htx : t.txLen = s.txLen) : SameAnswer i s n (.next t) (.next { t with txLen := n }) :=
  .kept htx fun h => absurd (hi.symm.trans h) Bool.noConfusion

theorem SameAnswer.of_next {i : Instr} {s t : State} {n : Half} {r : Result} (h : SameAnswer i s n (.next t) r) :
    (r = .next { t with txLen := n } ∧ t.txLen = s.txLen ∧ (isEncoder i = true → t.status ≠ 0)) ∨ r = .next t := by
  cases h with
  | kept htx hi => exact .inl ⟨rfl, htx, hi⟩
  | emitted => exact .inr rfl

variable {i : Instr} {s : State} {st : Byte} {x y : Word} {n : Half}

/-! ### What the operations read -/

@[simp] theorem readBytes_withOutputs (b : Buffer) (a k : Nat) :
    (s.withOutputs st x y n).readBytes b a k = s.readBytes b a k := State.readBytes_congr fun _ _ => rfl

theorem presentedCrc_withOutputs (hdr : Bool) (src : Source) (k : Nat) :
    presentedCrc (s.withOutputs st x y n) hdr src k = presentedCrc s hdr src k := by
  simp only [presentedCrc, headerBytes, readBytes_withOutputs]
  rfl

theorem headerBody_withOutputs (k : Nat) : headerBody (s.withOutputs st x y n) k = headerBody s k := by
  simp only [headerBody, readBytes_withOutputs]
  rfl

theorem takeBlocks_withOutputs (b : Buffer) (ich : Bool) (xs : List SampleSlot) (cur : Nat) :
    takeBlocks (s.withOutputs st x y n) b ich xs cur = takeBlocks s b ich xs cur := by
  induction xs generalizing cur with
  | nil => rfl
  | cons z zs ih =>
    have hblock : takeBlock (s.withOutputs st x y n) b ich z cur = takeBlock s b ich z cur := rfl
    simp only [takeBlocks, hblock, ih]

/-! ### The shared operations -/

theorem Failure.code_ne_zero (e : Failure) : e.code ≠ 0 := by cases e <;> decide

theorem SameAnswer.failed {e : Failure} : SameAnswer i s n (s.failed e) ((s.withOutputs st x y n).failed e) :=
  .kept rfl fun _ => e.code_ne_zero

theorem SameAnswer.done (hi : isEncoder i = false) {v w : Word} :
    SameAnswer i s n (s.done v w) ((s.withOutputs st x y n).done v w) :=
  .of_not_encoder hi rfl

theorem SameAnswer.frameDone {f : Bytes} :
    SameAnswer i s n (s.frameDone f) ((s.withOutputs st x y n).frameDone f) := .emitted _

theorem SameAnswer.ite {c : Prop} [Decidable c] {a b a' b' : Result} (ha : SameAnswer i s n a a')
    (hb : SameAnswer i s n b b') : SameAnswer i s n (if c then a else b) (if c then a' else b') := by
  split
  · exact ha
  · exact hb

/-- A check that both runs fail or both pass. -/
theorem SameAnswer.check {c : Prop} [Decidable c] {e : Failure} {r r' : Result} (h : SameAnswer i s n r r') :
    SameAnswer i s n (if c then s.failed e else r) (if c then (s.withOutputs st x y n).failed e else r') :=
  .ite .failed h

theorem SameAnswer.onSlot {p : PmuIndex} {body body' : PmuSlot → Result}
    (h : ∀ z, SameAnswer i s n (body z) (body' z)) :
    SameAnswer i s n (onSlot s p body) (onSlot (s.withOutputs st x y n) p body') := by
  have hslot : (s.withOutputs st x y n).slot p = s.slot p := rfl
  unfold Machine.onSlot
  rw [hslot]
  cases s.slot p with
  | none => exact .failed
  | some z => exact h z

theorem SameAnswer.getSlot (hi : isEncoder i = false) {p : PmuIndex} {field : PmuSlot → Word} :
    SameAnswer i s n (getSlot s p field) (getSlot (s.withOutputs st x y n) p field) := .onSlot fun _ => .done hi

theorem SameAnswer.withSlot (hi : isEncoder i = false) {p : PmuIndex} {z : PmuSlot} {r0 : Word} :
    SameAnswer i s n ((s.withSlot p z).done r0 0) (((s.withOutputs st x y n).withSlot p z).done r0 0) :=
  .of_not_encoder hi rfl

theorem SameAnswer.setSlot (hi : isEncoder i = false) {p : PmuIndex} {update : PmuSlot → PmuSlot} :
    SameAnswer i s n (setSlot s p update) (setSlot (s.withOutputs st x y n) p update) := .onSlot fun _ => .withSlot hi

theorem SameAnswer.withG (hi : isEncoder i = false) {g : Global} :
    SameAnswer i s n ((s.withG g).done 0 0) (((s.withOutputs st x y n).withG g).done 0 0) :=
  .of_not_encoder hi rfl

theorem SameAnswer.resizeEntries (hi : isEncoder i = false) {arr : EntryArray} {p : PmuIndex} :
    SameAnswer i s n (resizeEntries s arr p) (resizeEntries (s.withOutputs st x y n) arr p) :=
  .onSlot fun _ => .check (.ite (.done hi) (.withSlot hi))

theorem SameAnswer.setEntries (hi : isEncoder i = false) {arr : EntryArray} {p : PmuIndex} {scope : Scope}
    {upd : Word → Word} :
    SameAnswer i s n (setEntries s arr p scope upd) (setEntries (s.withOutputs st x y n) arr p scope upd) := by
  cases scope with
  | one => exact .onSlot fun _ => .check (.withSlot hi)
  | all => exact .onSlot fun _ => .withSlot hi
  | allPmu => exact .of_not_encoder hi rfl
  | reserved => exact .failed

theorem SameAnswer.getEntry (hi : isEncoder i = false) {arr : EntryArray} {p : PmuIndex} {result : Word → Word} :
    SameAnswer i s n (getEntry s arr p result) (getEntry (s.withOutputs st x y n) arr p result) :=
  .onSlot fun _ => .check (.done hi)

theorem SameAnswer.extraction {need : Nat} {body body' : Result} (h : SameAnswer i s n body body') :
    SameAnswer i s n (extraction s need body) (extraction (s.withOutputs st x y n) need body') :=
  .check (.check h)

theorem sampleSlot_withOutputs (p : PmuIndex) : (s.withOutputs st x y n).sampleSlot p = s.sampleSlot p := rfl

theorem SameAnswer.accessSample (hi : isEncoder i = false) {p : PmuIndex} {valid : Bool}
    {result : SampleSlot → Word} :
    SameAnswer i s n (accessSample s p valid fun z => s.done (result z) 0)
      (accessSample (s.withOutputs st x y n) p valid fun z => (s.withOutputs st x y n).done (result z) 0) := by
  unfold Machine.accessSample
  refine .check ?_
  rw [sampleSlot_withOutputs]
  cases s.sampleSlot p with
  | none => exact .failed
  | some z => exact .check (.done hi)

theorem SameAnswer.accessEntry {α : Type} (hi : isEncoder i = false) {p : PmuIndex} {count : SampleSlot → Half}
    {entries : SampleSlot → List α} {r0 r1 : α → Word} :
    SameAnswer i s n (accessEntry s p count entries fun v => s.done (r0 v) (r1 v))
      (accessEntry (s.withOutputs st x y n) p count entries fun v =>
        (s.withOutputs st x y n).done (r0 v) (r1 v)) := by
  unfold Machine.accessEntry
  refine .check ?_
  rw [sampleSlot_withOutputs]
  cases s.sampleSlot p with
  | none => exact .failed
  | some z =>
    refine .check (.check ?_)
    have ha0 : (s.withOutputs st x y n).a0 = s.a0 := rfl
    rw [ha0]
    cases (entries z)[s.a0.toNat - 1]? with
    | none => exact .failed
    | some v => exact .done hi

/-! ### The operations of their own shape -/

theorem SameAnswer.crcCompute {hdr : Bool} {src : Source} : SameAnswer (.crcCompute hdr src) s n
    (execCrcCompute hdr src s) (execCrcCompute hdr src (s.withOutputs st x y n)) := by
  unfold execCrcCompute
  rw [presentedCrc_withOutputs]
  exact .check (.done rfl)

theorem SameAnswer.crcCheck {hdr : Bool} {src : Source} : SameAnswer (.crcCheck hdr src) s n
    (execCrcCheck hdr src s) (execCrcCheck hdr src (s.withOutputs st x y n)) := by
  unfold execCrcCheck
  rw [presentedCrc_withOutputs]
  exact .check (.check (.ite (.done rfl) .failed))

theorem SameAnswer.cmdClassify {frame : Bool} {src : Source} : SameAnswer (.cmdClassify frame src) s n
    (execCmdClassify frame src s) (execCmdClassify frame src (s.withOutputs st x y n)) :=
  .ite (.done rfl) (.check (.check (.done rfl)))

theorem SameAnswer.cfgSetPmuCount : SameAnswer .cfgSetPmuCount s n
    (execCfgSetPmuCount s) (execCfgSetPmuCount (s.withOutputs st x y n)) := .check (.kept rfl nofun)

theorem SameAnswer.cfgGetStn {p : PmuIndex} : SameAnswer (.cfgGetStn p) s n
    (execCfgGetStn p s) (execCfgGetStn p (s.withOutputs st x y n)) := .onSlot fun _ => .kept rfl nofun

theorem SameAnswer.cfgEncode : SameAnswer .cfgEncode s n
    (execCfgEncode s) (execCfgEncode (s.withOutputs st x y n)) := .check (.check (.check (.check .frameDone)))

theorem SameAnswer.hdrfBuild {present : Bool} : SameAnswer (.hdrfBuild present) s n
    (execHdrfBuild present s) (execHdrfBuild present (s.withOutputs st x y n)) := by
  unfold execHdrfBuild
  rw [headerBody_withOutputs]
  exact .check (.check (.check .frameDone))

theorem SameAnswer.dataBind : SameAnswer .dataBind s n
    (execDataBind s) (execDataBind (s.withOutputs st x y n)) := .ite (.kept rfl nofun) (.kept rfl nofun)

theorem SameAnswer.dataDecode {ich : Bool} {src : Source} : SameAnswer (.dataDecode ich src) s n
    (execDataDecode ich src s) (execDataDecode ich src (s.withOutputs st x y n)) := by
  unfold execDataDecode
  simp only [takeBlocks_withOutputs]
  exact .check (.check (.check (.kept rfl nofun)))

theorem SameAnswer.dataEncode : SameAnswer .dataEncode s n
    (execDataEncode s) (execDataEncode (s.withOutputs st x y n)) := .check (.check (.check .frameDone))

theorem SameAnswer.dataSize {p : PmuIndex} : SameAnswer (.dataSize p) s n
    (execDataSize p s) (execDataSize p (s.withOutputs st x y n)) := by
  unfold execDataSize
  refine .check (.ite (.done rfl) ?_)
  rw [sampleSlot_withOutputs]
  cases s.sampleSlot p with
  | none => exact .failed
  | some z => exact .done rfl

/-- Every operation answers the same whatever the outputs hold. -/
theorem exec_withOutputs (i : Instr) (s : State) (st : Byte) (x y : Word) (n : Half) :
    SameAnswer i s n (exec i s) (exec i (s.withOutputs st x y n)) := by
  cases i with
  | crcCompute => exact .crcCompute
  | crcGet => exact .check (.done rfl)
  | crcCheck => exact .crcCheck
  | hdrType => exact .extraction (.check (.done rfl))
  | hdrSize | hdrIdcode | hdrSoc | hdrFrac => exact .extraction (.done rfl)
  | hdrStamp => exact .check (.check (.withG rfl))
  | cfgSetPmuCount => exact .cfgSetPmuCount
  | cfgSetGid | cfgSetTimeBase | cfgSetDataRate | cfgSetSoc | cfgSetFrac => exact .withG rfl
  | cfgSetPid | cfgSetFnom | cfgSetCcc | cfgSetFmtCoord | cfgSetFmtPhw | cfgSetFmtAnw | cfgSetFmtFqw =>
    exact .setSlot rfl
  | cfgSetStn | cfgSetNames => exact .onSlot fun _ => .check (.withSlot rfl)
  | cfgGetStn => exact .cfgGetStn
  | cfgIncCcc => exact .onSlot fun _ => .withSlot rfl
  | cfgSetNph | cfgSetNan | cfgSetNst => exact .resizeEntries rfl
  | cfgGetPid | cfgGetFnom | cfgGetCcc | cfgGetNph | cfgGetNan | cfgGetNst | cfgGetFmtCoord | cfgGetFmtPhw
  | cfgGetFmtAnw | cfgGetFmtFqw => exact .getSlot rfl
  | cfgSetPhf | cfgSetPht | cfgSetAnf | cfgSetAnt | cfgSetMskn | cfgSetMskv =>
    dsimp only [exec]
    exact .setEntries rfl
  | cfgGetPhf | cfgGetPht | cfgGetAnf | cfgGetAnt | cfgGetMskn | cfgGetMskv =>
    dsimp only [exec]
    exact .getEntry rfl
  | cfgEncode => exact .cfgEncode
  | hdrfBuild => exact .hdrfBuild
  | cmdClassify => exact .cmdClassify
  | dataBind => exact .dataBind
  | dataDecode => exact .dataDecode
  | dataEncode => exact .dataEncode
  | dataSize => exact .dataSize
  | dataGetPhasor | dataGetAnalog | dataGetDig => exact .accessEntry rfl
  | dataGetFreq | dataGetRocof | dataGetStat => exact .accessSample rfl
  | _ => exact .done rfl

/-- Settles O58: an operation writes `TX_LEN` itself, or leaves it as it found it. -/
theorem earlierResultsDoNotMatter : Obligations.EarlierResultsDoNotMatter := by
  intro i s t st x y h
  have hsame := fun st x y n => SameAnswer.of_next (h ▸ exec_withOutputs i s st x y n)
  refine ⟨?_, fun n => ?_⟩
  · obtain ⟨hr, htx, -⟩ | hr := hsame st x y s.txLen
    · exact hr.trans (by rw [← htx])
    · exact hr
  · obtain ⟨hr, -, hi⟩ | hr := hsame s.status s.r0 s.r1 n
    · exact ⟨n, hr, fun henc hok => absurd hok (hi henc)⟩
    · exact ⟨t.txLen, hr, fun _ _ => rfl⟩

end Sys2Proof.Machine
end

section
/-! The buffers: a field stored big-endian and read back, and the operations that write a byte (R25, R70, R73, R76). -/

namespace Sys2Proof.Machine

variable {i : Instr} {s t : State}

/-! ### Big-endian fields -/

/-- The first part of a concatenation is the more significant. -/
theorem toNat_append_eq_add {m n : Nat} (x : BitVec m) (y : BitVec n) :
    (x ++ y).toNat = x.toNat * 2 ^ n + y.toNat := by
  rw [BitVec.toNat_append, ← Nat.shiftLeft_add_eq_or_of_lt y.isLt, Nat.shiftLeft_eq]

/-- The bytes of a 32-bit field are those of its two halves, the more significant half first. -/
theorem bytesBe32_append (x y : Half) : bytesBe32 (x ++ y) = bytesBe16 x ++ bytesBe16 y := by
  have hx : ∀ k, 16 ≤ k → (x ++ y : Word).extractLsb' k 8 = x.extractLsb' (k - 16) 8 :=
    fun _ => BitVec.extractLsb'_append_eq_of_le
  have hy : ∀ k, k + 8 ≤ 16 → (x ++ y : Word).extractLsb' k 8 = y.extractLsb' k 8 :=
    fun _ => BitVec.extractLsb'_append_eq_of_add_le
  simp [bytesBe32, bytesBe16, hx, hy]

/-- A stored byte reads back. -/
theorem readByte_writeBytes_getElem (s : State) (b : Buffer) (a k : Nat) (bs : Bytes) (h : k < bs.length) :
    (s.writeBytes b a bs).readByte b (a + k) = bs[k] := by
  simp [State.readByte_writeBytes, h]

/-- A field that lies at an offset of the bytes stored reads back. -/
theorem read16_writeBytes (s : State) (b : Buffer) (a : Nat) (pre post : Bytes) (h : Half) :
    (s.writeBytes b a (pre ++ bytesBe16 h ++ post)).read16 b (a + pre.length) = h := by
  rw [State.read16, Nat.add_assoc, readByte_writeBytes_getElem, readByte_writeBytes_getElem]
  · simp [bytesBe16, append_bytesBe16]
  all_goals simp only [List.length_append, bytesBe16_length]; omega

theorem read16_writeBytes_bytesBe16 (s : State) (b : Buffer) (a : Nat) (h : Half) :
    (s.writeBytes b a (bytesBe16 h)).read16 b a = h := by
  simpa using read16_writeBytes s b a [] [] h

theorem read32_writeBytes_append (s : State) (b : Buffer) (a : Nat) (x y : Half) :
    (s.writeBytes b a (bytesBe16 x ++ bytesBe16 y)).read32 b a = x ++ y := by
  have hx := read16_writeBytes s b a [] (bytesBe16 y) x
  have hy := read16_writeBytes s b a (bytesBe16 x) [] y
  simp only [List.nil_append, List.append_nil, List.length_nil, bytesBe16_length, Nat.add_zero] at hx hy
  rw [State.read32, hx, hy]

theorem read32_writeBytes_bytesBe32 (s : State) (b : Buffer) (a : Nat) (w : Word) :
    (s.writeBytes b a (bytesBe32 w)).read32 b a = w := by
  have hw : (w.extractLsb' 16 16 ++ w.extractLsb' 0 16 : Word) = w := BitVec.extractLsb'_append_extractLsb'
  rw [← hw, bytesBe32_append, read32_writeBytes_append]

/-- A byte outside the range stored reads as before. -/
theorem readByte_writeBytes_outside (s : State) {b c : Buffer} {a x : Nat} {bs : Bytes}
    (h : ¬ (c = b ∧ a ≤ x ∧ x < a + bs.length)) : (s.writeBytes b a bs).readByte c x = s.readByte c x := by
  rw [State.readByte_writeBytes, dif_neg fun ⟨hc, hle, hlt⟩ => h ⟨hc, hle, by omega⟩]

/-- Settles O59: a 32-bit field is stored as its two halves, each read back as `append_bytesBe16` says. -/
theorem storedFieldsReadBackBigEndian : Obligations.StoredFieldsReadBackBigEndian := fun s b a h w =>
  ⟨read16_writeBytes_bytesBe16 s b a h, read32_writeBytes_bytesBe32 s b a w,
    toNat_append_eq_add _ _, toNat_append_eq_add _ _, fun _ _ hout => readByte_writeBytes_outside s hout⟩

/-! ### The operations that write a byte -/

theorem storesBytes_of_isEncoder (h : isEncoder i = true) : storesBytes i = true := by
  cases i with
  | cfgEncode | hdrfBuild | dataEncode => rfl
  | _ => cases h

/-- `ended` writes no buffer. -/
@[simp] theorem State.readByte_ended (s : State) (st : Byte) (x y : Word) (b : Buffer) (a : Nat) :
    (s.ended st x y).readByte b a = s.readByte b a := rfl

/-- A station name is 16 bytes of `ARGB`. -/
theorem readByte_writeName (s : State) (name : Name16) (c : Buffer) (x : Nat) (h : c = .argb → 16 ≤ x) :
    (s.writeBytes .argb 0 name.toList).readByte c x = s.readByte c x :=
  readByte_writeBytes_outside s fun ⟨hc, _, hlt⟩ => by
    have := h hc
    simp only [Vector.length_toList] at hlt
    omega

/-- A frame lies in `TXB`. -/
theorem readByte_emitFrame_other (s : State) (f : Bytes) (c : Buffer) (x : Nat) (h : c ≠ .txb) :
    (s.emitFrame f).readByte c x = s.readByte c x := by
  rw [State.readByte_emitFrame, dif_neg fun hc => h hc.1]

/-- What an operation does to the buffers and `TX_LEN`: nothing; or, ending with `OK`, it stores to `ARGB[0..16)` as
CFG.GET_STN, or to `TXB` and `TX_LEN` as an encoder. -/
theorem Effect.buffers (he : Effect i s t) :
    (t.txLen = s.txLen ∧ ∀ c x, t.readByte c x = s.readByte c x) ∨
    ((∃ p, i = .cfgGetStn p) ∧ t.status = 0 ∧ t.txLen = s.txLen ∧
      ∀ c x, (c = .argb → 16 ≤ x) → t.readByte c x = s.readByte c x) ∨
    (isEncoder i = true ∧ t.status = 0 ∧ ∀ c x, c ≠ .txb → t.readByte c x = s.readByte c x) := by
  cases he with
  | stationName hi name => exact .inr (.inl ⟨⟨_, hi⟩, rfl, rfl, by simpa using readByte_writeName s name⟩)
  | frame hi => exact .inr (.inr ⟨hi, rfl, by simpa using readByte_emitFrame_other s _⟩)
  | _ => exact .inl ⟨rfl, fun _ _ => rfl⟩

/-- Settles O55: the two effects that store bytes end with `OK`, the one in `ARGB[0..16)`, the other in `TXB`. -/
theorem onlyStoringOperationsWriteABuffer : Obligations.OnlyStoringOperationsWriteABuffer := by
  intro i s t h
  obtain ⟨htx, hmem⟩ | ⟨⟨p, rfl⟩, hok, htx, hmem⟩ | ⟨hi, hok, hmem⟩ := (exec_effect h).buffers
  · exact ⟨fun _ => hmem, fun _ => ⟨htx, hmem .txb⟩, fun _ => hmem .argb, fun a _ => hmem .argb a⟩
  · have hi : storesBytes (.cfgGetStn p) = true := rfl
    exact ⟨fun hno => by simp [hi, hok] at hno, fun _ => ⟨htx, fun a => hmem .txb a nofun⟩,
      fun hne => absurd rfl (hne p), fun a ha => hmem .argb a fun _ => ha⟩
  · exact ⟨fun hno => by simp [storesBytes_of_isEncoder hi, hok] at hno, fun hno => by simp [hi, hok] at hno,
      fun _ a => hmem .argb a nofun, fun a _ => hmem .argb a nofun⟩

end Sys2Proof.Machine
end

section
/-! The snapshot: the data operations do not see the configuration, which only DATA.BIND copies (R56, R83, R381). -/

namespace Sys2Proof.Machine

/-- The state with its slots replaced and `G` changed by `f`: any configuration, or with `id` any slots. -/
def State.withConfig (s : State) (f : Global → Global) (ps : List PmuSlot) : State := { s with g := f s.g, pmus := ps }

/-- The answer with that done to its next state. -/
def withConfigAfter (f : Global → Global) (ps : List PmuSlot) : Result → Result
  | .next t => .next (t.withConfig f ps)
  | .fault r => .fault r
  | .refused r => .refused r

variable {s : State} {f : Global → Global} {ps : List PmuSlot}

/-! ### The shared operations -/

theorem sampleSlot_withConfig (p : PmuIndex) : (s.withConfig f ps).sampleSlot p = s.sampleSlot p := rfl

theorem takeBlocks_withConfig (b : Buffer) (ich : Bool) (xs : List SampleSlot) (cur : Nat) :
    takeBlocks (s.withConfig f ps) b ich xs cur = takeBlocks s b ich xs cur := by
  induction xs generalizing cur with
  | nil => rfl
  | cons x xs ih =>
    have hblock : takeBlock (s.withConfig f ps) b ich x cur = takeBlock s b ich x cur := rfl
    simp only [takeBlocks, hblock, ih]

/-- A check that both runs fail or both pass. -/
theorem check_withConfig {c : Prop} [Decidable c] {e : Failure} {r r' : Result} (h : r' = withConfigAfter f ps r) :
    (if c then (s.withConfig f ps).failed e else r') = withConfigAfter f ps (if c then s.failed e else r) := by
  rw [h, apply_ite (withConfigAfter f ps)]
  rfl

theorem accessSample_withConfig {p : PmuIndex} {valid : Bool} {result : SampleSlot → Word} :
    accessSample (s.withConfig f ps) p valid (fun x => (s.withConfig f ps).done (result x) 0) =
      withConfigAfter f ps (accessSample s p valid fun x => s.done (result x) 0) := by
  unfold accessSample
  refine check_withConfig ?_
  rw [sampleSlot_withConfig]
  cases s.sampleSlot p with
  | none => rfl
  | some x => exact check_withConfig rfl

theorem accessEntry_withConfig {α : Type} {p : PmuIndex} {count : SampleSlot → Half} {entries : SampleSlot → List α}
    {r0 r1 : α → Word} :
    accessEntry (s.withConfig f ps) p count entries (fun v => (s.withConfig f ps).done (r0 v) (r1 v)) =
      withConfigAfter f ps (accessEntry s p count entries fun v => s.done (r0 v) (r1 v)) := by
  unfold accessEntry
  refine check_withConfig ?_
  rw [sampleSlot_withConfig]
  cases s.sampleSlot p with
  | none => rfl
  | some x =>
    refine check_withConfig (check_withConfig ?_)
    have ha0 : (s.withConfig f ps).a0 = s.a0 := rfl
    rw [ha0]
    cases (entries x)[s.a0.toNat - 1]? <;> rfl

/-! ### The operations of their own shape -/

theorem execDataDecode_withConfig {ich : Bool} {src : Source} :
    execDataDecode ich src (s.withConfig f ps) = withConfigAfter f ps (execDataDecode ich src s) := by
  unfold execDataDecode
  simp only [takeBlocks_withConfig]
  exact check_withConfig (check_withConfig (check_withConfig rfl))

theorem execDataSize_withConfig {p : PmuIndex} :
    execDataSize p (s.withConfig f ps) = withConfigAfter f ps (execDataSize p s) := by
  unfold execDataSize
  refine check_withConfig ?_
  rw [apply_ite (withConfigAfter f ps), sampleSlot_withConfig]
  cases s.sampleSlot p <;> rfl

/-- DATA.ENCODE reads `G`, for the frame's header, but no slot (R307). -/
theorem execDataEncode_withConfig_id :
    execDataEncode (s.withConfig id ps) = withConfigAfter id ps (execDataEncode s) := by
  have hdone (frame : Bytes) : (s.withConfig id ps).frameDone frame = withConfigAfter id ps (s.frameDone frame) := rfl
  exact check_withConfig (check_withConfig (check_withConfig (hdone _)))

/-- Whatever the configuration becomes, these operations answer the same. -/
theorem exec_withConfig (p : PmuIndex) (ich : Bool) (src : Source) :
    ∀ i ∈ [Instr.dataDecode ich src, .dataSize p, .dataGetPhasor p, .dataGetAnalog p, .dataGetFreq p, .dataGetRocof p,
        .dataGetStat p, .dataGetDig p],
      exec i (s.withConfig f ps) = withConfigAfter f ps (exec i s) := by
  simp only [List.forall_mem_cons, List.not_mem_nil, false_implies, implies_true, and_true]
  exact ⟨execDataDecode_withConfig, execDataSize_withConfig, accessEntry_withConfig, accessEntry_withConfig,
    accessSample_withConfig, accessSample_withConfig, accessSample_withConfig, accessEntry_withConfig⟩

/-- Settles O57: each operation answers with the configuration replaced as it would have answered without. -/
theorem snapshotHidesLaterConfigurationChanges : Obligations.SnapshotHidesLaterConfigurationChanges :=
  fun _ _ g ps p ich src =>
    ⟨fun i hi h => (exec_withConfig p ich src i hi).trans (congrArg (withConfigAfter (fun _ => g) ps) h),
      fun h => execDataEncode_withConfig_id.trans (congrArg (withConfigAfter id ps) h)⟩

end Sys2Proof.Machine
end

section
/-! Words of frames: the SYNC words of R103 and the command words of R120, and the two operations that read them (R170,
R290). -/

namespace Sys2Proof.Machine

variable {s : State} {b0 b1 : Byte} {w : Half} {i : Instr}

/-! ### The USER class -/

theorem ne_of_userClass (h : w &&& 0x0F00 = 0x0F00) {c : Half} (hc : c &&& 0x0F00 ≠ 0x0F00) : w ≠ c :=
  fun heq => hc (heq ▸ h)

/-- A USER word is none of the seven exact words. -/
theorem decodeCommandWord_user (h : w &&& 0x0F00 = 0x0F00) : decodeCommandWord w = .ok (.cmdwUser w) := by
  simpa [decodeCommandWord, ne_of_userClass h] using h

/-- A USER word does not begin with the SYNC byte: bits 11:8 of 0xAA.. are 0xA. -/
theorem firstByte_ne_sync_of_user (h : w &&& 0x0F00 = 0x0F00) : w.extractLsb' 8 8 ≠ 0xAA := by
  have hbyte : w.extractLsb' 8 8 &&& 0x0F = 0x0F := by
    have := congrArg (BitVec.extractLsb' 8 8) h
    rwa [BitVec.extractLsb'_and] at this
  intro hsync
  rw [hsync] at hbyte
  exact absurd hbyte (by decide)

theorem decode_wire_user (h : w &&& 0x0F00 = 0x0F00) : decode (.wire w) = .ok (.cmdwUser w) := by
  rw [decode, decodeWire, if_neg (firstByte_ne_sync_of_user h), append_bytesBe16, decodeCommandWord_user h]

/-! ### The rows -/

/-- R103's table: the two bytes of a SYNC word, and its row. -/
inductive SyncRow : Byte → Byte → Instr → Prop
  | data : SyncRow 0xAA 0x01 .syncData
  | header : SyncRow 0xAA 0x11 .syncHeader
  | config1 : SyncRow 0xAA 0x21 .syncConfig1
  | config2 : SyncRow 0xAA 0x31 .syncConfig2
  | command : SyncRow 0xAA 0x41 .syncCommand
  | config3 : SyncRow 0xAA 0x52 .syncConfig3

/-- R120's table: a command word, and its row. -/
inductive CommandRow : Half → Instr → Prop
  | dataOff : CommandRow 0x0001 .cmdwDataOff
  | dataOn : CommandRow 0x0002 .cmdwDataOn
  | sendHdr : CommandRow 0x0003 .cmdwSendHdr
  | sendConfig1 : CommandRow 0x0004 .cmdwSendConfig1
  | sendConfig2 : CommandRow 0x0005 .cmdwSendConfig2
  | sendConfig3 : CommandRow 0x0006 .cmdwSendConfig3
  | extendedFrame : CommandRow 0x0008 .cmdwExtendedFrame
  | user {w : Half} (h : w &&& 0x0F00 = 0x0F00) : CommandRow w (.cmdwUser w)

theorem SyncRow.of_decodeSync (h : decodeSync b0 b1 = .ok i) : SyncRow b0 b1 i := by
  unfold decodeSync at h
  split_ifs at h <;> cases h <;> subst_vars <;> constructor

theorem CommandRow.of_decodeCommandWord (h : decodeCommandWord w = .ok i) : CommandRow w i := by
  unfold decodeCommandWord at h
  split_ifs at h <;> cases h <;> subst_vars <;> constructor
  assumption

/-! ### The code of a row -/

theorem SyncRow.encode_eq (row : SyncRow b0 b1 i) : encode i = .wire (b0 ++ b1) ∧ i.wf = true := by
  cases row <;> exact ⟨rfl, rfl⟩

theorem CommandRow.encode_eq (row : CommandRow w i) : encode i = .wire w ∧ i.wf = true := by
  cases row with
  | user h => exact ⟨rfl, beq_iff_eq.2 h⟩
  | _ => exact ⟨rfl, rfl⟩

/-- Settles O11: the word is its two bytes, read as a SYNC word or as a command word. -/
theorem wireWordsHaveOneMeaning : Obligations.WireWordsHaveOneMeaning := by
  intro w i h
  rw [decode, decodeWire, append_bytesBe16] at h
  split at h
  next => simpa only [append_bytesBe16] using (SyncRow.of_decodeSync h).encode_eq
  next => exact (CommandRow.of_decodeCommandWord h).encode_eq

/-! ### The meaning of a row -/

/-- Settles O15. -/
theorem wireWordRowsGiveTheirKind : Obligations.WireWordRowsGiveTheirKind := fun _ =>
  ⟨rfl, rfl, rfl, rfl, rfl, rfl, rfl, rfl, rfl, rfl, rfl, rfl, rfl, fun _ _ => rfl⟩

/-- A SYNC word's row gives what HDR.TYPE reports of its two bytes. -/
theorem SyncRow.exec_eq (row : SyncRow b0 b1 i) (s : State) : frameKindOf b0 b1 ≠ .invalid ∧
    exec i s = s.done (frameKindCode (frameKindOf b0 b1)) (b1.setWidth 32) := by
  cases row <;> exact ⟨by decide, rfl⟩

/-- No USER word is one of the seven exact words. -/
theorem commandKindOf_user (h : w &&& 0x0F00 = 0x0F00) : commandKindOf w = .user := by
  simpa [commandKindOf, ne_of_userClass h] using h

/-- A command word's row gives what CMD.CLASSIFY reports of the word. -/
theorem CommandRow.exec_eq (row : CommandRow w i) (s : State) : exec i s = classified s w := by
  cases row with
  | user h => rw [classified, commandKindOf_user h]; rfl
  | _ => rfl

/-! ### The operations that read a word -/

theorem presentedFits_eq_true (h : s.a0.toNat + s.a1.toNat ≤ s.params.bufBytes) : s.presentedFits = true :=
  decide_eq_true h

/-- Enough bytes presented inside the buffer pass the checks of R174. -/
theorem extraction_eq_body {need : Nat} {body : Result} (hfit : s.a0.toNat + s.a1.toNat ≤ s.params.bufBytes)
    (hneed : need ≤ s.a1.toNat) : extraction s need body = body := by
  rw [extraction, presentedFits_eq_true hfit, if_neg Bool.noConfusion, if_neg (Nat.not_lt.2 hneed)]

theorem execHdrType_sync {src : Source} (hfit : s.a0.toNat + s.a1.toNat ≤ s.params.bufBytes) (hneed : 2 ≤ s.a1.toNat)
    (h : decodeSync (s.readByte (srcBuffer src) s.a0.toNat) (s.readByte (srcBuffer src) (s.a0.toNat + 1)) = .ok i) :
    execHdrType src s = exec i s := by
  obtain ⟨hkind, hexec⟩ := (SyncRow.of_decodeSync h).exec_eq s
  rw [execHdrType, extraction_eq_body hfit hneed, hexec]
  exact if_neg hkind

theorem execCmdClassify_word {src : Source} (h : decodeCommandWord (s.a0.setWidth 16) = .ok i) :
    execCmdClassify false src s = exec i s := ((CommandRow.of_decodeCommandWord h).exec_eq s).symm

theorem execCmdClassify_frame {src : Source} (hfit : s.a0.toNat + s.a1.toNat ≤ s.params.bufBytes)
    (hneed : s.a2.toNat + 2 ≤ s.a1.toNat)
    (h : decodeCommandWord (s.read16 (srcBuffer src) (s.a0.toNat + s.a2.toNat)) = .ok i) :
    execCmdClassify true src s = exec i s := by
  rw [execCmdClassify, presentedFits_eq_true hfit, if_neg Bool.noConfusion, if_neg Bool.noConfusion,
    if_neg (Nat.not_lt.2 hneed), (CommandRow.of_decodeCommandWord h).exec_eq]

/-- Settles O13. -/
theorem syncWordsAreRunByHdrType : Obligations.SyncWordsAreRunByHdrType := by
  intro s w rest src i hhost hcmd hfit hneed hword
  rw [writingCmdRunsTheDecodedOperation s w rest _ hhost hcmd]
  exact execHdrType_sync hfit hneed hword

/-- Settles O14. -/
theorem commandWordsAreRunByCmdClassify : Obligations.CommandWordsAreRunByCmdClassify := by
  intro s w rest src i hhost
  refine ⟨fun hcmd hword => ?_, fun hcmd hfit hneed hword => ?_⟩
  · rw [writingCmdRunsTheDecodedOperation s w rest _ hhost hcmd]
    exact execCmdClassify_word hword
  · rw [writingCmdRunsTheDecodedOperation s w rest _ hhost hcmd]
    exact execCmdClassify_frame hfit hneed hword

end Sys2Proof.Machine
end

section
/-! The operation word: its three fields, the flag bits, and the row of R130's table that an `OP` selects (R130 to R132). -/

namespace Sys2Proof.Machine

/-! ### The fields of an operation word -/

theorem decode_opw (op flg : Byte) (p : PmuIndex) : decode (opw op flg p) = decodeFields op flg p := by
  have hop : (op ++ flg ++ p : Word).extractLsb' 24 8 = op := by
    rw [BitVec.extractLsb'_append_eq_of_le (by decide), BitVec.extractLsb'_append_eq_left]
  have hflg : (op ++ flg ++ p : Word).extractLsb' 16 8 = flg := by
    rw [BitVec.extractLsb'_append_eq_of_le (by decide), BitVec.extractLsb'_append_eq_right]
  rw [opw, decode, decodeCmd, hop, hflg, BitVec.extractLsb'_append_eq_right]

/-- The three fields make the word up (R20). -/
theorem opw_fields (w : Word) : opw (w.extractLsb' 24 8) (w.extractLsb' 16 8) (w.extractLsb' 0 16) = .cmd w := by
  rw [opw, BitVec.extractLsb'_append_extractLsb'_eq_extractLsb' (start₁ := 16) (len₁ := 8) rfl]
  exact congrArg Code.cmd BitVec.extractLsb'_append_extractLsb'

/-! ### The flag bits -/

@[simp] theorem Source.ofBit_bit (src : Source) : Source.ofBit src.bit = src := by cases src <;> rfl

@[simp] theorem Source.bit_ofBit (b : Bool) : (Source.ofBit b).bit = b := by cases b <;> rfl

@[simp] theorem Scope.ofBits_bits (scope : Scope) : Scope.ofBits scope.bits = scope := by cases scope <;> rfl

@[simp] theorem Scope.bits_ofBits : ∀ b : BitVec 2, (Scope.ofBits b).bits = b := by decide

@[simp] theorem flags_getElem_zero : ∀ b0 b1 b2 scope, (flags b0 b1 b2 scope)[0] = b0 := by decide

@[simp] theorem flags_getElem_one : ∀ b0 b1 b2 scope, (flags b0 b1 b2 scope)[1] = b1 := by decide

@[simp] theorem flags_getElem_two : ∀ b0 b1 b2 scope, (flags b0 b1 b2 scope)[2] = b2 := by decide

@[simp] theorem flags_extractLsb'_scope : ∀ b0 b1 b2 scope, (flags b0 b1 b2 scope).extractLsb' 4 2 = scope := by decide

/-- Settles O9, by cases on the instruction: an operation's flags are read back bit by bit, and no USER word is another
row's word or begins with the SYNC byte. -/
theorem decodeReturnsWhatWasEncoded : Obligations.DecodeReturnsWhatWasEncoded := by
  intro i hwf
  cases i with
  | crcCompute | crcGet | crcCheck | hdrType | hdrSize | hdrIdcode | hdrSoc | hdrFrac | hdrfBuild | cmdClassify
  | dataDecode | cfgSetPhf | cfgSetPht | cfgSetAnf | cfgSetAnt | cfgSetMskn | cfgSetMskv =>
    simp [encode, decode_opw, decodeFields]
  | syncData | syncHeader | syncConfig1 | syncConfig2 | syncCommand | syncConfig3 => rfl
  | cmdwDataOff | cmdwDataOn | cmdwSendHdr | cmdwSendConfig1 | cmdwSendConfig2 | cmdwSendConfig3
  | cmdwExtendedFrame => rfl
  | cmdwUser w => exact decode_wire_user (beq_iff_eq.1 hwf)
  | _ => exact decode_opw _ _ _

/-! ### The row of an operation code

The flags that a row writes back are its own mask of the flag byte; every such mask is one of five. -/

theorem flags_hdr_src_eq_and : ∀ flg : Byte, flags flg[0] false flg[2] 0#2 = flg &&& 0x05 := by decide

theorem flags_src_eq_and : ∀ flg : Byte, flags false false flg[2] 0#2 = flg &&& 0x04 := by decide

theorem flags_hdrFrac_eq_and : ∀ flg : Byte, flags flg[0] flg[1] flg[2] 0#2 = flg &&& 0x07 := by decide

theorem flags_present_eq_and : ∀ flg : Byte, flags flg[0] false false 0#2 = flg &&& 0x01 := by decide

theorem flags_scope_eq_and : ∀ flg : Byte, flags false false false (flg.extractLsb' 4 2) = flg &&& 0x30 := by decide

theorem pmux_and_eq_self (p : PmuIndex) : p &&& 0xFFFF#16 = p := BitVec.and_allOnes

/-- The row of R130's table with the code `op`: it makes its instruction `f flg p` of the two other fields, of which it reads
the bits of `mask` (R131). -/
structure OpRow (op : Byte) (f : Byte → PmuIndex → Instr) (mask : Word) : Prop where
  decodes : ∀ flg p, decodeFields op flg p = .ok (f flg p)
  wf : ∀ flg p, (f flg p).wf = true
  readMask : ∀ flg p, (f flg p).readMask = mask
  keepsOp : mask.extractLsb' 24 8 = 0xFF
  encodes : ∀ flg p, encode (f flg p) = opw op (flg &&& mask.extractLsb' 16 8) (p &&& mask.extractLsb' 0 16)

theorem eq_ofNat_of_toNat_eq {w n : Nat} {x : BitVec w} (h : x.toNat = n) : x = BitVec.ofNat w n := by
  rw [← h, BitVec.ofNat_toNat, BitVec.setWidth_eq]

/-- A code that decodes is the code of a row: the model's arms one by one, the last of them the one without a row. -/
theorem OpRow.of_decodeFields {op flg : Byte} {p : PmuIndex} {i : Instr} (h : decodeFields op flg p = .ok i) :
    ∃ f mask, OpRow op f mask ∧ i = f flg p := by
  revert h
  fun_cases decodeFields op flg p
  case case71 => nofun
  all_goals
    intro h
    cases h
    cases eq_ofNat_of_toNat_eq ‹op.toNat = _›
    refine ⟨_, _, ⟨fun _ _ => rfl, fun _ _ => rfl, fun _ _ => rfl, rfl, fun _ _ => ?_⟩, rfl⟩
    simp [encode, Instr.readMask, flags_hdr_src_eq_and, flags_src_eq_and, flags_hdrFrac_eq_and, flags_present_eq_and,
      flags_scope_eq_and, pmux_and_eq_self]

/-! ### The bits an operation does not read -/

section
variable {op : Byte} {f : Byte → PmuIndex → Instr} {mask : Word}

/-- Clearing the bits that it does not read changes nothing for a row: what it encodes to decodes. -/
theorem OpRow.masked (row : OpRow op f mask) (flg : Byte) (p : PmuIndex) :
    f (flg &&& mask.extractLsb' 16 8) (p &&& mask.extractLsb' 0 16) = f flg p := by
  have h := decodeReturnsWhatWasEncoded (f flg p) (row.wf flg p)
  rw [row.encodes, decode_opw, row.decodes] at h
  exact Except.ok.inj h

/-- A row decodes whatever the two other fields are. -/
theorem OpRow.isOk (row : OpRow op f mask) (flg : Byte) (p : PmuIndex) : (decodeFields op flg p).isOk = true := by
  rw [row.decodes]; rfl

theorem OpRow.op_eq_of_and_eq (row : OpRow op f mask) {v w : Word} (h : v &&& mask = w &&& mask) :
    v.extractLsb' 24 8 = w.extractLsb' 24 8 := by
  have hop := congrArg (BitVec.extractLsb' 24 8) h
  have hall (x : Byte) : x &&& 0xFF = x := BitVec.and_allOnes
  rwa [BitVec.extractLsb'_and, BitVec.extractLsb'_and, row.keepsOp, hall, hall] at hop

end

/-- Settles O10, by the row of the word's `OP`. -/
theorem operationsIgnoreTheBitsTheyDoNotRead : Obligations.OperationsIgnoreTheBitsTheyDoNotRead := by
  intro w i h
  obtain ⟨f, mask, row, rfl⟩ := OpRow.of_decodeFields h
  rw [row.readMask]
  refine ⟨?_, fun v hv => ?_⟩
  · have hop : (w &&& mask).extractLsb' 24 8 = w.extractLsb' 24 8 :=
      row.op_eq_of_and_eq (by rw [BitVec.and_assoc, BitVec.and_self])
    rw [row.encodes, ← opw_fields (w &&& mask), hop, BitVec.extractLsb'_and, BitVec.extractLsb'_and]
  · have hflg := congrArg (BitVec.extractLsb' 16 8) hv
    have hp := congrArg (BitVec.extractLsb' 0 16) hv
    simp only [BitVec.extractLsb'_and] at hflg hp
    rw [decodeCmd, row.op_eq_of_and_eq hv, row.decodes, ← row.masked, hflg, hp, row.masked]

/-! ### The operation codes outside the table -/

/-- Whether a word decodes depends on its `OP` alone. -/
theorem decodeFields_isOk (op flg : Byte) (p : PmuIndex) :
    (decodeFields op flg p).isOk = (decodeFields op 0 0).isOk := by
  rcases h : decodeFields op 0 0 with e | i
  · rcases h' : decodeFields op flg p with e' | i'
    · rfl
    · obtain ⟨f, mask, row, -⟩ := OpRow.of_decodeFields h'
      rw [row.decodes] at h
      cases h
  · obtain ⟨f, mask, row, -⟩ := OpRow.of_decodeFields h
    rw [row.isOk]
    rfl

/-- R132's ranges are the codes without a row. -/
theorem decodeFields_zero_isOk_iff : ∀ op : Byte, (decodeFields op 0 0).isOk = true ↔
    ¬ (op.toNat ≤ 0x0F ∨ (0x13 ≤ op.toNat ∧ op.toNat ≤ 0x1F) ∨ (0x26 ≤ op.toNat ∧ op.toNat ≤ 0x2F) ∨
      (0x3C ≤ op.toNat ∧ op.toNat ≤ 0x3F) ∨ (0x49 ≤ op.toNat ∧ op.toNat ≤ 0x4F) ∨ op.toNat = 0x57 ∨
      (0x6C ≤ op.toNat ∧ op.toNat ≤ 0x6F) ∨ (0x72 ≤ op.toNat ∧ op.toNat ≤ 0x7F) ∨
      (0x81 ≤ op.toNat ∧ op.toNat ≤ 0x8F) ∨ 0x9A ≤ op.toNat) := by decide

/-- Settles O8: a word decodes exactly when its `OP` lies in none of R132's ranges. -/
theorem operationsOutsideTheTableAreIllegal : Obligations.OperationsOutsideTheTableAreIllegal := by
  constructor
  · intro s w rest h op illegal
    have hiff : (decodeCmd w).isOk = true ↔ ¬ illegal := by
      have hdec := decodeFields_zero_isOk_iff (w.extractLsb' 24 8)
      rwa [cmd_op_eq rfl, ← decodeFields_isOk _ (w.extractLsb' 16 8) (w.extractLsb' 0 16)] at hdec
    rcases hd : decodeCmd w with e | i
    · rw [hd] at hiff
      refine ⟨fun _ => ?_, fun hlegal => absurd (hiff.2 hlegal) Bool.noConfusion⟩
      rw [step_access h, resolveAccess_writeCmd, runAccess_illegal hd]
      rfl
    · rw [hd] at hiff
      exact ⟨fun hillegal => absurd hillegal (hiff.1 rfl), fun _ => ⟨i, rfl⟩⟩
  · exact fun s h => if_pos h

/-- Settles O12. -/
theorem writtenOutWordsDecode : Obligations.WrittenOutWordsDecode :=
  ⟨rfl, rfl, rfl, rfl, rfl, rfl, rfl, rfl, rfl, rfl, rfl⟩

end Sys2Proof.Machine
end

section
/-! The frames of the three encoders: each states its own length and ends in its CRC (R25, R100, R101, R104). -/

namespace Sys2Proof.Machine

variable {s t : State} {i : Instr} {g : Global} {sync : Half} {n : Nat} {frame body : Bytes}

/-! ### A frame read back from `TXB` -/

/-- A field of the frame reads back. -/
theorem read16_emitFrame (s : State) (pre post : Bytes) (h : Half) :
    (s.emitFrame (pre ++ bytesBe16 h ++ post)).read16 .txb pre.length = h := by
  have hread := read16_writeBytes s .txb 0 pre post h
  rwa [Nat.zero_add] at hread

/-- The first bytes of the frame read back. -/
theorem readBytes_emitFrame (s : State) (pre post : Bytes) :
    (s.emitFrame (pre ++ post)).readBytes .txb 0 pre.length = pre := by
  refine List.ext_getElem (by simp) fun k _ hk => ?_
  have hk' : k < (pre ++ post).length := by simp only [List.length_append]; omega
  rw [State.readBytes_getElem, Nat.zero_add, State.readByte_emitFrame, dif_pos ⟨rfl, hk'⟩, List.getElem_append_left hk]

/-- A frame with the common header begins with its SYNC word's first byte. -/
theorem readByte_emitFrame_sync (s : State) (h : commonHeader g sync n <+: frame) :
    (s.emitFrame frame).readByte .txb 0 = sync.extractLsb' 8 8 := by
  obtain ⟨post, rfl⟩ := h
  rw [State.readByte_emitFrame, dif_pos ⟨rfl, by simp⟩]
  rfl

/-- A frame with the common header holds its size at offset 2. -/
theorem read16_emitFrame_size (s : State) (h : commonHeader g sync n <+: frame) :
    (s.emitFrame frame).read16 .txb 2 = BitVec.ofNat 16 n := by
  obtain ⟨post, rfl⟩ := h
  have hread := read16_emitFrame s (bytesBe16 sync)
    (bytesBe16 g.idCode ++ bytesBe32 g.epochSeconds ++ bytesBe32 g.fracOfSecond ++ post) (BitVec.ofNat 16 n)
  simpa only [commonHeader, List.append_assoc, bytesBe16_length] using hread

/-- A frame with a trailer ends in its CRC. -/
theorem read16_emitFrame_crc (s : State) (k : Nat) (body : Bytes) :
    (s.emitFrame (withTrailer k body)).read16 .txb body.length =
      crc16 k ((s.emitFrame (withTrailer k body)).readBytes .txb 0 body.length) := by
  have hcrc := read16_emitFrame s body [] (crc16 k body)
  rw [List.append_nil] at hcrc
  rw [withTrailer, readBytes_emitFrame, hcrc]

/-! ### A successful encoder -/

/-- The encoder ended with `OK`: it emitted `body`, which begins with the common header, its own size with the trailer in
it, and then the trailer; the size fits `TX_LEN`. -/
structure EmitsFrame (s t : State) (sync : Half) (body : Bytes) : Prop where
  header : commonHeader s.g sync (body.length + 2) <+: body
  size_le : body.length + 2 ≤ 65535
  next : t = (s.emitFrame (withTrailer s.params.crcShift3 body)).ended 0 (BitVec.ofNat 32 (body.length + 2)) 0

/-- An operation that ends with `OK` passed the check. -/
theorem of_check_ok {c : Prop} [Decidable c] {e : Failure} {r : Result} (hok : t.status = 0)
    (h : (if c then s.failed e else r) = .next t) : ¬ c ∧ r = .next t := by
  split at h
  next => rw [failed_next h] at hok; exact absurd hok e.code_ne_zero
  next hc => exact ⟨hc, h⟩

theorem EmitsFrame.of_frameDone (hheader : commonHeader s.g sync n <+: body) (hlen : body.length + 2 = n)
    (hsize : ¬ n > 65535) (h : s.frameDone (withTrailer s.params.crcShift3 body) = .next t) :
    EmitsFrame s t sync body := by
  subst hlen
  exact ⟨hheader, Nat.not_lt.1 hsize, by rw [frameDone_next h, withTrailer_length]⟩

theorem EmitsFrame.of_cfgEncode (hinv : s.Inv) (hok : t.status = 0) (h : execCfgEncode s = .next t) :
    EmitsFrame s t (configSync s.a0) (configBody s (configSync s.a0)) := by
  obtain ⟨-, h⟩ := of_check_ok hok h
  obtain ⟨-, h⟩ := of_check_ok hok h
  obtain ⟨hsize, h⟩ := of_check_ok hok h
  obtain ⟨hnames, h⟩ := of_check_ok hok h
  have hlen := configBody_length hinv.slots (Bool.eq_false_iff.2 hnames) (configSync s.a0)
  exact .of_frameDone ⟨_, by simp only [configBody, List.append_assoc]; rfl⟩ hlen hsize h

theorem EmitsFrame.of_hdrfBuild {present : Bool} (hok : t.status = 0) (h : execHdrfBuild present s = .next t) :
    EmitsFrame s t 0xAA11 (headerBody s s.a0.toNat) := by
  obtain ⟨-, h⟩ := of_check_ok hok h
  obtain ⟨-, h⟩ := of_check_ok hok h
  obtain ⟨hsize, h⟩ := of_check_ok hok h
  exact .of_frameDone ⟨_, rfl⟩ (by rw [headerBody_length]; omega) hsize h

theorem EmitsFrame.of_dataEncode (hinv : s.Inv) (hok : t.status = 0) (h : execDataEncode s = .next t) :
    EmitsFrame s t 0xAA01 (dataBody s) := by
  obtain ⟨-, h⟩ := of_check_ok hok h
  obtain ⟨-, h⟩ := of_check_ok hok h
  obtain ⟨hsize, h⟩ := of_check_ok hok h
  exact .of_frameDone ⟨_, rfl⟩ (dataBody_length hinv.samples) hsize h

theorem configSync_firstByte (kind : Word) : (configSync kind).extractLsb' 8 8 = 0xAA := by
  unfold configSync; split <;> rfl

/-- Each of the three encoders, ending with `OK`, emitted a frame. -/
theorem EmitsFrame.of_encoder (hinv : s.Inv) (hi : isEncoder i = true) (hok : t.status = 0) (h : exec i s = .next t) :
    ∃ sync body, sync.extractLsb' 8 8 = (0xAA : Byte) ∧ EmitsFrame s t sync body := by
  cases i with
  | cfgEncode => exact ⟨_, _, configSync_firstByte _, .of_cfgEncode hinv hok h⟩
  | hdrfBuild => exact ⟨_, _, rfl, .of_hdrfBuild hok h⟩
  | dataEncode => exact ⟨_, _, rfl, .of_dataEncode hinv hok h⟩
  | _ => cases hi

/-! ### What the frame states -/

section
variable (hf : EmitsFrame s t sync body)
include hf

theorem EmitsFrame.txLen_toNat : t.txLen.toNat = body.length + 2 := by
  have hsize := hf.size_le
  rw [hf.next, State.ended_txLen, State.emitFrame_txLen, withTrailer_length, BitVec.toNat_ofNat]
  omega

theorem EmitsFrame.size_ge : 16 ≤ body.length + 2 := by
  have hlen := hf.header.length_le
  rw [commonHeader_length] at hlen
  omega

theorem EmitsFrame.txLen_eq : t.txLen = BitVec.ofNat 16 (body.length + 2) := by
  rw [← hf.txLen_toNat, BitVec.ofNat_toNat, BitVec.setWidth_eq]

theorem EmitsFrame.r0_eq : t.r0 = t.txLen.setWidth 32 := by
  apply BitVec.eq_of_toNat_eq
  have hsize := hf.size_le
  rw [BitVec.toNat_setWidth, hf.txLen_toNat, hf.next, State.ended_r0, BitVec.toNat_ofNat]

theorem EmitsFrame.header_withTrailer (k : Nat) : commonHeader s.g sync (body.length + 2) <+: withTrailer k body :=
  hf.header.trans ⟨_, rfl⟩

theorem EmitsFrame.readByte_zero : t.readByte .txb 0 = sync.extractLsb' 8 8 := by
  rw [hf.next, State.readByte_ended, readByte_emitFrame_sync s (hf.header_withTrailer _)]

theorem EmitsFrame.read16_two : t.read16 .txb 2 = t.txLen := by
  rw [hf.txLen_eq, ← read16_emitFrame_size s (hf.header_withTrailer s.params.crcShift3), hf.next]
  rfl

theorem EmitsFrame.read16_trailer :
    t.read16 .txb (t.txLen.toNat - 2) = crc16 t.params.crcShift3 (t.readBytes .txb 0 (t.txLen.toNat - 2)) := by
  have hbytes : t.readBytes .txb 0 body.length =
      (s.emitFrame (withTrailer s.params.crcShift3 body)).readBytes .txb 0 body.length :=
    State.readBytes_congr fun _ _ => by rw [hf.next, State.readByte_ended]
  rw [hf.txLen_toNat, Nat.add_sub_cancel, hbytes, hf.next]
  exact read16_emitFrame_crc s _ body

end

/-- Settles O42. -/
theorem everyEncodedFrameStatesItsSizeAndCrc : Obligations.EveryEncodedFrameStatesItsSizeAndCrc := by
  intro s t i hinv hi h hok
  obtain ⟨sync, body, hsync, hf⟩ := EmitsFrame.of_encoder hinv hi hok h
  exact ⟨hf.txLen_toNat ▸ hf.size_ge, hf.r0_eq, hf.readByte_zero.trans hsync, hf.read16_two, hf.read16_trailer⟩

end Sys2Proof.Machine
end

section
/-! The CRC: each step is one to one in the running value and in the byte, so a single changed byte always shows (R150, R151,
R155). -/

namespace Sys2Proof.Machine

variable {k : Nat} {c c' : Half} {b b' : Byte} {m : Bytes} {f : Byte → Byte}

/-! ### The two parts of a step -/

/-- R150's `q` from its `temp`. -/
def crcQuotient (temp : Byte) : Byte := temp ^^^ (temp >>> 4)

/-- What R150 adds of `q` to the shifted running value, at any width; `k` is the third shift. -/
def crcSpread {w : Nat} (k : Nat) (q : BitVec w) : BitVec w := q ^^^ ((q <<< 5) ^^^ (q <<< k))

theorem crcStep_eq (k : Nat) (c : Half) (b : Byte) :
    crcStep k c b = (c <<< 8) ^^^ crcSpread k ((crcQuotient (c.extractLsb' 8 8 ^^^ b)).setWidth 16) := by
  simp only [crcStep, crcSpread, crcQuotient, BitVec.xor_assoc]

theorem toNat_crcQuotient (temp : Byte) : (crcQuotient temp).toNat = temp.toNat ^^^ (temp.toNat / 16) := by
  simp [crcQuotient, Nat.shiftRight_eq_div_pow]

theorem toNat_crcSpread {w : Nat} (k : Nat) (q : BitVec w) :
    (crcSpread k q).toNat = (q.toNat ^^^ ((q.toNat * 32) ^^^ (q.toNat * 2 ^ k))) % 2 ^ w := by
  simp only [crcSpread, BitVec.toNat_xor, BitVec.toNat_shiftLeft, Nat.shiftLeft_eq, Nat.xor_mod_two_pow,
    Nat.mod_eq_of_lt q.isLt, Nat.reducePow]

/-- Settles O16: the truncation may wait, as it goes through the exclusive or. -/
theorem crcStepFollowsItsFormula : Obligations.CrcStepFollowsItsFormula := by
  refine ⟨fun k c b => ?_, rfl, rfl, rfl⟩
  have htemp : (c.extractLsb' 8 8 ^^^ b).toNat = (c.toNat / 256) ^^^ b.toNat := by
    have hc := c.isLt
    rw [BitVec.toNat_xor, BitVec.extractLsb'_toNat, Nat.shiftRight_eq_div_pow, Nat.mod_eq_of_lt (by omega)]
  have hq (q : Byte) : (q.setWidth 16).toNat = q.toNat := BitVec.toNat_setWidth_of_le (by decide)
  rw [crcStep_eq, BitVec.toNat_xor, toNat_crcSpread, hq, toNat_crcQuotient, htemp, BitVec.toNat_shiftLeft,
    Nat.shiftLeft_eq, ← Nat.xor_mod_two_pow]
  simp only [Nat.xor_assoc, Nat.reducePow]

/-! ### A step is one to one -/

theorem bytesBe16_injective : Function.Injective bytesBe16 := fun v w h => by
  obtain ⟨hhigh, hlow⟩ : v.extractLsb' 8 8 = w.extractLsb' 8 8 ∧ v.extractLsb' 0 8 = w.extractLsb' 0 8 := by
    simpa [bytesBe16] using h
  rw [← append_bytesBe16 v, hhigh, hlow, append_bytesBe16]

theorem crcQuotient_involutive : Function.Involutive crcQuotient := fun t => by
  have hzero : t >>> 4 >>> 4 = 0#8 := by
    rw [← BitVec.shiftRight_add]; exact BitVec.ushiftRight_eq_zero (Nat.le_refl 8)
  rw [crcQuotient, crcQuotient, BitVec.ushiftRight_xor_distrib, hzero, BitVec.xor_zero, BitVec.xor_assoc, BitVec.xor_self,
    BitVec.xor_zero]

/-- On a byte any two of the shifts together leave nothing, so that `crcSpread` undoes itself. -/
theorem crcSpread_involutive (hk : 4 ≤ k) : Function.Involutive (crcSpread k : Byte → Byte) := fun q => by
  have hzero {m n : Nat} (h : 8 ≤ m + n) : q <<< m <<< n = 0 := by
    rw [← BitVec.shiftLeft_add]; exact BitVec.shiftLeft_eq_zero h
  have h5 : (crcSpread k q) <<< 5 = q <<< 5 := by
    simp [crcSpread, BitVec.shiftLeft_xor_distrib, hzero (m := 5) (n := 5) (by omega), hzero (m := k) (n := 5) (by omega)]
  have hk : (crcSpread k q) <<< k = q <<< k := by
    simp [crcSpread, BitVec.shiftLeft_xor_distrib, hzero (m := 5) (n := k) (by omega), hzero (m := k) (n := k) (by omega)]
  rw [crcSpread, h5, hk, crcSpread, BitVec.xor_assoc, BitVec.xor_self, BitVec.xor_zero]

/-- The low byte of a step's result comes of `temp` alone. -/
theorem crcStep_setWidth (k : Nat) (c : Half) (b : Byte) :
    (crcStep k c b).setWidth 8 = crcSpread k (crcQuotient (c.extractLsb' 8 8 ^^^ b)) := by
  simp [crcStep_eq, crcSpread]

/-- The low byte of the result gives back `temp`, and then the low byte of the running value. -/
theorem crcStep_eq_crcStep (hk : 4 ≤ k) (h : crcStep k c b = crcStep k c' b') :
    c.extractLsb' 8 8 ^^^ b = c'.extractLsb' 8 8 ^^^ b' ∧ c.extractLsb' 0 8 = c'.extractLsb' 0 8 := by
  have htemp : c.extractLsb' 8 8 ^^^ b = c'.extractLsb' 8 8 ^^^ b' := by
    have hlow := congrArg (BitVec.setWidth 8) h
    rw [crcStep_setWidth, crcStep_setWidth] at hlow
    exact crcQuotient_involutive.injective ((crcSpread_involutive hk).injective hlow)
  refine ⟨htemp, ?_⟩
  rw [crcStep_eq, crcStep_eq, htemp, BitVec.xor_left_inj] at h
  have hlow (x : Half) : (x <<< 8).extractLsb' 8 8 = x.extractLsb' 0 8 := by
    ext i hi; simp [BitVec.getLsbD_shiftLeft]; omega
  rw [← hlow, h, hlow]

theorem crcStep_injective_byte (hk : 4 ≤ k) (c : Half) : Function.Injective (crcStep k c) := fun _ _ h =>
  (BitVec.xor_right_inj _).1 (crcStep_eq_crcStep hk h).1

theorem crcStep_injective_crc (hk : 4 ≤ k) (b : Byte) : Function.Injective (crcStep k · b) := fun c c' h => by
  obtain ⟨hhigh, hlow⟩ := crcStep_eq_crcStep hk h
  rw [BitVec.xor_left_inj] at hhigh
  exact bytesBe16_injective (by simp only [bytesBe16, hhigh, hlow])

/-- Distinct running values stay distinct over any further bytes. -/
theorem foldl_crcStep_injective (hk : 4 ≤ k) (m : Bytes) : Function.Injective (m.foldl (crcStep k)) := by
  induction m with
  | nil => exact Function.injective_id
  | cons b m ih => exact ih.comp (crcStep_injective_crc hk b)

/-- One changed byte changes every running value from there on. -/
theorem foldl_crcStep_modify_ne (hk : 4 ≤ k) (hf : ∀ b, f b ≠ b) {i : Nat} (hi : i < m.length) (c : Half) :
    (m.modify i f).foldl (crcStep k) c ≠ m.foldl (crcStep k) c := by
  induction m generalizing i c with
  | nil => exact absurd hi (Nat.not_lt_zero i)
  | cons b m ih =>
    cases i with
    | zero => exact fun h => hf b (crcStep_injective_byte hk c (foldl_crcStep_injective hk m h))
    | succ i => exact ih (Nat.lt_of_succ_lt_succ hi) _

/-! ### A message with its CRC appended -/

theorem modify_ne_self (hf : ∀ b, f b ≠ b) {i : Nat} (hi : i < m.length) : m.modify i f ≠ m := fun h => by
  have hget := List.getElem_modify_eq f i m (by simpa using hi)
  simp only [h] at hget
  exact hf _ hget.symm

/-- The bytes after the first `n` are the CRC of the first `n`. -/
def EndsInCrc (k n : Nat) (frame : Bytes) : Prop := bytesBe16 (crc16 k (frame.take n)) = frame.drop n

theorem endsInCrc_withTrailer (k : Nat) (m : Bytes) : EndsInCrc k m.length (withTrailer k m) := by
  rw [EndsInCrc, withTrailer, List.take_left, List.drop_left]

/-- A changed byte of the message changes the CRC; a changed byte of the trailer changes the trailer alone. -/
theorem not_endsInCrc_modify (hk : 4 ≤ k) (hf : ∀ b, f b ≠ b) {i : Nat} (hi : i < (withTrailer k m).length) :
    ¬ EndsInCrc k m.length ((withTrailer k m).modify i f) := by
  rw [withTrailer_length] at hi
  rw [EndsInCrc, List.take_modify, withTrailer, List.take_left]
  rcases Nat.lt_or_ge i m.length with hlt | hge
  · rw [List.drop_modify_of_lt _ _ _ _ hlt, List.drop_left]
    exact fun h => foldl_crcStep_modify_ne hk hf hlt _ (bytesBe16_injective h)
  · rw [List.drop_modify_of_ge _ _ _ _ hge, List.drop_left, List.modify_eq_self hge]
    exact (modify_ne_self hf (by rw [bytesBe16_length]; omega)).symm

/-- A flipped bit changes its byte. -/
theorem xor_twoPow_ne_self {j : Nat} (hj : j < 8) (b : Byte) : b ^^^ BitVec.ofNat 8 (2 ^ j) ≠ b := fun h => by
  have hne : ∀ j < 8, BitVec.ofNat 8 (2 ^ j) ≠ 0#8 := by decide
  exact hne j hj ((BitVec.xor_right_inj b).1 (h.trans BitVec.xor_zero.symm))

end Sys2Proof.Machine
end

section
/-! The CRC16 family: CRC.COMPUTE, CRC.GET and CRC.CHECK (R152 to R156). -/

namespace Sys2Proof.Machine

variable {s : State} {hdr : Bool} {src : Source} {n : Nat}

/-! ### The words that select the family -/

theorem selects_crcCompute : Selects 0x10 (fun w => .crcCompute (cmdFlag 0 w) (cmdSource w)) :=
  selects_of fun w o ho => by
    obtain rfl := eq_ofNat_of_toNat_eq ho
    rw [← cmd_flag0_eq, ← cmd_source_eq]
    rfl

theorem selects_crcGet : Selects 0x11 (fun w => .crcGet (cmdSource w)) :=
  selects_of fun w o ho => by
    obtain rfl := eq_ofNat_of_toNat_eq ho
    rw [← cmd_source_eq]
    rfl

theorem selects_crcCheck : Selects 0x12 (fun w => .crcCheck (cmdFlag 0 w) (cmdSource w)) :=
  selects_of fun w o ho => by
    obtain rfl := eq_ofNat_of_toNat_eq ho
    rw [← cmd_flag0_eq, ← cmd_source_eq]
    rfl

/-! ### What the operations read -/

/-- A 16-bit field in a result register, as its two bytes. -/
theorem read16_setWidth (s : State) (b : Buffer) (a : Nat) : (s.read16 b a).setWidth 32 =
    BitVec.ofNat 32 ((s.readByte b a).toNat * 256 + (s.readByte b (a + 1)).toNat) := by
  rw [State.read16, ← BitVec.ofNat_toNat, toNat_append_eq_add]
  rfl

theorem srcBuffer_eq_ite (src : Source) : srcBuffer src = if src = .rxb then .rxb else .txb := by cases src <;> rfl

theorem presentedFits_eq_false (h : s.params.bufBytes < s.a0.toNat + s.a1.toNat) : s.presentedFits = false :=
  decide_eq_false (Nat.not_le.2 h)

theorem readBytes_two (s : State) (b : Buffer) (a : Nat) : s.readBytes b a 2 = bytesBe16 (s.read16 b a) := by
  rw [bytesBe16, State.read16, BitVec.extractLsb'_append_eq_left, BitVec.extractLsb'_append_eq_right]
  rfl

/-- The operand registers are no part of what a buffer holds. -/
theorem readBytes_withRange (s : State) (x y : Word) (b : Buffer) (a n : Nat) :
    State.readBytes { s with a0 := x, a1 := y } b a n = s.readBytes b a n := State.readBytes_congr fun _ _ => rfl

theorem presentedCrc_withRange (s : State) (x y : Word) (hdr : Bool) (src : Source) (n : Nat) :
    presentedCrc { s with a0 := x, a1 := y } hdr src n =
      crc16 s.params.crcShift3 (headerBytes s hdr ++ s.readBytes (srcBuffer src) x.toNat n) := by
  simp only [presentedCrc, headerBytes, readBytes_withRange]

/-- The CRC that CRC.CHECK computes, of all the bytes presented to it. -/
theorem presentedCrc_eq_crc16_take (s : State) (src : Source) (n : Nat) :
    presentedCrc s false src n =
      crc16 s.params.crcShift3 ((s.readBytes (srcBuffer src) s.a0.toNat (n + 2)).take n) := by
  rw [State.readBytes_add, List.take_left' (State.readBytes_length s _ _ n)]
  rfl

/-- The comparison of CRC.CHECK, of all the bytes presented to it. -/
theorem presentedCrc_eq_read16_iff (s : State) (src : Source) (n : Nat) :
    presentedCrc s false src n = s.read16 (srcBuffer src) (s.a0.toNat + n) ↔
      EndsInCrc s.params.crcShift3 n (s.readBytes (srcBuffer src) s.a0.toNat (n + 2)) := by
  have htrailer : (s.readBytes (srcBuffer src) s.a0.toNat (n + 2)).drop n =
      bytesBe16 (s.read16 (srcBuffer src) (s.a0.toNat + n)) := by
    rw [State.readBytes_add, List.drop_left' (State.readBytes_length s _ _ n), readBytes_two]
  rw [EndsInCrc, htrailer, bytesBe16_injective.eq_iff, presentedCrc_eq_crc16_take]

/-! ### The outcomes of the three operations -/

theorem exec_crcCompute_of_fits (hfit : s.a0.toNat + s.a1.toNat ≤ s.params.bufBytes) :
    exec (.crcCompute hdr src) s = s.done ((presentedCrc s hdr src s.a1.toNat).setWidth 32) 0 :=
  if_neg (by rw [presentedFits_eq_true hfit]; exact Bool.noConfusion)

/-- CRC.COMPUTE with its range given as numbers. -/
theorem exec_crcCompute_withRange (hdr : Bool) (src : Source) {a : Nat} (hword : a + n < 2 ^ 32)
    (hfit : a + n ≤ s.params.bufBytes) :
    exec (.crcCompute hdr src) { s with a0 := BitVec.ofNat 32 a, a1 := BitVec.ofNat 32 n } = .next { s with
      a0 := BitVec.ofNat 32 a
      a1 := BitVec.ofNat 32 n
      status := 0
      r0 := (crc16 s.params.crcShift3 (headerBytes s hdr ++ s.readBytes (srcBuffer src) a n)).setWidth 32
      r1 := 0 } := by
  have ha : (BitVec.ofNat 32 a).toNat = a := Nat.mod_eq_of_lt (by omega)
  have hn : (BitVec.ofNat 32 n).toNat = n := Nat.mod_eq_of_lt (by omega)
  rw [exec_crcCompute_of_fits (by simpa only [ha, hn] using hfit), presentedCrc_withRange, ha, hn]
  rfl

theorem exec_crcGet_of_fits (hfit : s.a0.toNat + 2 ≤ s.params.bufBytes) :
    exec (.crcGet src) s = s.done ((s.read16 (srcBuffer src) s.a0.toNat).setWidth 32) 0 :=
  if_neg (Nat.not_lt.2 hfit)

/-- CRC.CHECK on a range in the buffer that has room for the trailer. -/
theorem exec_crcCheck_of_fits (hlen : 2 ≤ s.a1.toNat) (hfit : s.a0.toNat + s.a1.toNat ≤ s.params.bufBytes) :
    exec (.crcCheck hdr src) s =
      if presentedCrc s hdr src (s.a1.toNat - 2) = s.read16 (srcBuffer src) (s.a0.toNat + s.a1.toNat - 2) then
        s.done 1 ((presentedCrc s hdr src (s.a1.toNat - 2)).setWidth 32)
      else s.failed .crcMismatch := by
  change execCrcCheck hdr src s = _
  rw [execCrcCheck, if_neg (Nat.not_lt.2 hlen), presentedFits_eq_true hfit, if_neg Bool.noConfusion]

/-- Settles O17. -/
theorem crcComputeFoldsThePresentedBytes : Obligations.CrcComputeFoldsThePresentedBytes := by
  refine ⟨selects_crcCompute, fun s hdr src => ⟨fun hfit => ?_, fun hover => if_pos (presentedFits_eq_false hover)⟩⟩
  rw [exec_crcCompute_of_fits hfit, ← srcBuffer_eq_ite]
  rfl

/-- Settles O18. -/
theorem crcGetReadsTwoBytes : Obligations.CrcGetReadsTwoBytes := by
  refine ⟨selects_crcGet, fun s src => ⟨fun hfit => ?_, fun hover => if_pos hover⟩⟩
  rw [exec_crcGet_of_fits hfit, read16_setWidth, ← srcBuffer_eq_ite]
  rfl

/-- Settles O19. -/
theorem crcCheckComparesWithTheTrailer : Obligations.CrcCheckComparesWithTheTrailer := by
  refine ⟨selects_crcCheck, fun s hdr src => ⟨fun hshort => if_pos hshort, fun hlen hover => ?_, fun hlen hfit => ?_⟩⟩
  · exact (if_neg (Nat.not_lt.2 hlen)).trans (if_pos (presentedFits_eq_false hover))
  · rw [exec_crcCheck_of_fits hlen hfit, ← srcBuffer_eq_ite]
    exact ⟨fun heq => if_pos heq, fun hne => if_neg hne⟩

/-- Settles O20: CRC.CHECK passes exactly the bytes that end in their CRC, and one changed byte
is enough for them not to. -/
theorem appendedCrcPassesAndOneFlippedBitFails : Obligations.AppendedCrcPassesAndOneFlippedBitFails := by
  intro s src m hk hlen hfit framed
  have hcheck := exec_crcCheck_of_fits (hdr := false) (src := src) (hlen ▸ Nat.le_add_left 2 _) hfit
  have hiff := presentedCrc_eq_read16_iff s src m.length
  rw [hlen, Nat.add_sub_cancel, ← Nat.add_assoc, Nat.add_sub_cancel] at hcheck
  rw [hlen]
  refine ⟨fun hread => ?_, fun i j hi hj hread => ?_⟩
  · have hcrc : presentedCrc s false src m.length = crc16 s.params.crcShift3 m := by
      rw [presentedCrc_eq_crc16_take, hread, List.take_left]
    have hends : EndsInCrc s.params.crcShift3 m.length framed := endsInCrc_withTrailer _ m
    rw [hcheck, if_pos (hiff.2 (hread ▸ hends)), hcrc]
    rfl
  · have hnot := not_endsInCrc_modify (k := s.params.crcShift3) (by omega) (xor_twoPow_ne_self hj) hi
    rw [hread] at hiff
    exact hcheck.trans (if_neg (hiff.not.2 hnot))

/-- Settles O21: both operations fold the same bytes. -/
theorem headerFoldGivesTheWholeFrameCrc : Obligations.HeaderFoldGivesTheWholeFrameCrc := by
  intro s src o n hfit hword hhb
  have hbytes : headerBytes s true ++ s.readBytes (srcBuffer src) (o + 4) n =
      headerBytes s false ++ s.readBytes (srcBuffer src) o (4 + n) := by
    rw [State.readBytes_add, ← hhb]
    rfl
  refine ⟨_, exec_crcCompute_withRange false src (by omega) (by omega), ?_⟩
  rw [exec_crcCompute_withRange true src (by omega) (by omega), hbytes]

end Sys2Proof.Machine
end

section
/-! The Frame Header Utilities: HDR.TYPE, the reads at fixed offsets, HDR.FRAC and HDR.STAMP (R170 to R176). -/

namespace Sys2Proof.Machine

variable {s : State} {src : Source} {strip : Bool} {need : Nat} {body : Result}

/-! ### The words that select the family -/

/-- A row of the operation table selects what it makes of the two other fields. -/
theorem selects_of_row {op : Nat} {f : Byte → PmuIndex → Instr} {i : Word → Instr}
    (hrow : ∀ flg p, decodeFields (BitVec.ofNat 8 op) flg p = .ok (f flg p))
    (hfields : ∀ w, f (w.extractLsb' 16 8) (w.extractLsb' 0 16) = i w) : Selects op i :=
  selects_of fun w o ho => by rw [eq_ofNat_of_toNat_eq ho, hrow, hfields]

theorem selects_hdrType : Selects 0x20 (fun w => .hdrType (cmdSource w)) :=
  selects_of_row (fun _ _ => rfl) fun w => congrArg Instr.hdrType (cmd_source_eq w)

theorem selects_hdrSize : Selects 0x21 (fun w => .hdrSize (cmdSource w)) :=
  selects_of_row (fun _ _ => rfl) fun w => congrArg Instr.hdrSize (cmd_source_eq w)

theorem selects_hdrIdcode : Selects 0x22 (fun w => .hdrIdcode (cmdFlag 0 w) (cmdSource w)) :=
  selects_of_row (fun _ _ => rfl) fun w => congrArg₂ Instr.hdrIdcode (cmd_flag0_eq w) (cmd_source_eq w)

theorem selects_hdrSoc : Selects 0x23 (fun w => .hdrSoc (cmdFlag 0 w) (cmdSource w)) :=
  selects_of_row (fun _ _ => rfl) fun w => congrArg₂ Instr.hdrSoc (cmd_flag0_eq w) (cmd_source_eq w)

theorem selects_hdrFrac : Selects 0x24 (fun w => .hdrFrac (cmdFlag 0 w) (cmdFlag 1 w) (cmdSource w)) :=
  selects_of_row (fun _ _ => rfl) fun w => by rw [cmd_flag0_eq, cmd_flag1_eq, cmd_source_eq]

theorem selects_hdrStamp : Selects 0x25 (fun _ => .hdrStamp) := selects_of_row (fun _ _ => rfl) fun _ => rfl

/-! ### The two failures of an extraction (R174) -/

theorem extraction_eq_overrun (hover : s.params.bufBytes < s.a0.toNat + s.a1.toNat) :
    extraction s need body = s.failed .overrun := if_pos (presentedFits_eq_false hover)

theorem extraction_eq_malformed (hfit : s.a0.toNat + s.a1.toNat ≤ s.params.bufBytes) (hshort : s.a1.toNat < need) :
    extraction s need body = s.failed .malformedFrame := by
  rw [extraction, presentedFits_eq_true hfit, if_neg Bool.noConfusion, if_pos hshort]

/-! ### HDR.TYPE -/

/-- R103's type bytes, each with the code of its frame kind (R133). -/
def frameKindCodes : List (Byte × Word) := [(0x01, 1), (0x11, 2), (0x21, 3), (0x31, 4), (0x41, 5), (0x52, 6)]

theorem frameKindOf_eq_invalid {b0 b1 : Byte} (h : b0 ≠ 0xAA ∨ ∀ k ∈ frameKindCodes, b1 ≠ k.1) :
    frameKindOf b0 b1 = .invalid := by
  rcases h with hsync | htype
  · exact if_neg hsync
  · simp only [frameKindCodes, List.forall_mem_cons, List.not_mem_nil, false_implies, implies_true, and_true] at htype
    obtain ⟨hdata, hheader, hconfig1, hconfig2, hcommand, hconfig3⟩ := htype
    simp only [frameKindOf, hdata, hheader, hconfig1, hconfig2, hcommand, hconfig3, if_false, ite_self]

theorem frameKindOf_of_mem : ∀ k ∈ frameKindCodes,
    frameKindOf 0xAA k.1 ≠ .invalid ∧ frameKindCode (frameKindOf 0xAA k.1) = k.2 := by
  simp only [frameKindCodes, List.forall_mem_cons, List.not_mem_nil, false_implies, implies_true, and_true]
  exact ⟨⟨nofun, rfl⟩, ⟨nofun, rfl⟩, ⟨nofun, rfl⟩, ⟨nofun, rfl⟩, ⟨nofun, rfl⟩, ⟨nofun, rfl⟩⟩

/-- HDR.TYPE on at least two presented bytes in the buffer. -/
theorem exec_hdrType_of_fits (hfit : s.a0.toNat + s.a1.toNat ≤ s.params.bufBytes) (hneed : 2 ≤ s.a1.toNat)
    {b0 b1 : Byte} (hb0 : s.readByte (srcBuffer src) s.a0.toNat = b0)
    (hb1 : s.readByte (srcBuffer src) (s.a0.toNat + 1) = b1) :
    exec (.hdrType src) s =
      if frameKindOf b0 b1 = .invalid then s.failed .malformedFrame
      else s.done (frameKindCode (frameKindOf b0 b1)) (b1.setWidth 32) := by
  subst hb0 hb1
  exact extraction_eq_body hfit hneed

/-- Settles O22. -/
theorem hdrTypeGivesTheFrameKind : Obligations.HdrTypeGivesTheFrameKind := by
  refine ⟨selects_hdrType, fun s src => ?_⟩
  rw [← srcBuffer_eq_ite]
  intro b0 b1 kinds
  refine ⟨extraction_eq_overrun, extraction_eq_malformed,
    fun hfit hneed => ⟨fun hinvalid => ?_, fun k hk hb0 hb1 => ?_⟩⟩
  · exact (exec_hdrType_of_fits hfit hneed rfl rfl).trans (if_pos (frameKindOf_eq_invalid hinvalid))
  · obtain ⟨hvalid, hcode⟩ := frameKindOf_of_mem k hk
    rw [exec_hdrType_of_fits hfit hneed hb0 hb1, if_neg hvalid, hcode, hb1]
    rfl

/-! ### The reads at fixed offsets -/

/-- Settles O23: each of the three is an extraction that reads one field. -/
theorem hdrFieldsAreFixedOffsetReads : Obligations.HdrFieldsAreFixedOffsetReads := by
  refine ⟨selects_hdrSize, selects_hdrIdcode, selects_hdrSoc, fun s strip src => ?_⟩
  rw [← srcBuffer_eq_ite]
  refine ⟨fun hover => ?_, fun hfit => ⟨extraction_eq_malformed hfit, extraction_eq_body hfit,
    extraction_eq_malformed hfit, extraction_eq_body hfit, extraction_eq_malformed hfit, extraction_eq_body hfit⟩⟩
  simp only [List.forall_mem_cons, List.not_mem_nil, false_implies, implies_true, and_true]
  exact ⟨extraction_eq_overrun hover, extraction_eq_overrun hover, extraction_eq_overrun hover⟩

/-! ### HDR.FRAC -/

/-- R175's result as a number. -/
def fractionValue (rescale : Bool) (raw timeBase : Word) : Nat :=
  if rescale = true ∧ timeBase ≠ 0 then raw.toNat * (1000000000 / timeBase.toNat) else raw.toNat

/-- A 32-bit word times at most 10^9, which is below 2^30. -/
theorem fractionValue_lt (rescale : Bool) (raw timeBase : Word) : fractionValue rescale raw timeBase < 2 ^ 62 := by
  have hraw := raw.isLt
  unfold fractionValue
  split
  next =>
    have hquot : 1000000000 / timeBase.toNat < 2 ^ 30 := Nat.lt_of_le_of_lt (Nat.div_le_self _ _) (by decide)
    calc raw.toNat * (1000000000 / timeBase.toNat) < 2 ^ 32 * 2 ^ 30 := Nat.mul_lt_mul'' hraw hquot
      _ = 2 ^ 62 := by decide
  next => omega

theorem rescaledFraction_eq_ofNat (rescale : Bool) (raw timeBase : Word) :
    rescaledFraction rescale raw timeBase = BitVec.ofNat 64 (fractionValue rescale raw timeBase) := by
  rw [rescaledFraction, fractionValue, apply_ite (BitVec.ofNat 64), BitVec.ofNat_toNat]

/-- The low half of a 64-bit result (R22). -/
theorem extractLsb'_ofNat_low (v : Nat) : (BitVec.ofNat 64 v).extractLsb' 0 32 = BitVec.ofNat 32 v := by
  apply BitVec.eq_of_toNat_eq
  simp only [BitVec.extractLsb'_toNat, BitVec.toNat_ofNat, Nat.shiftRight_zero]
  omega

/-- The high half of a 64-bit result (R22). -/
theorem extractLsb'_ofNat_high {v : Nat} (hv : v < 2 ^ 64) :
    (BitVec.ofNat 64 v).extractLsb' 32 32 = BitVec.ofNat 32 (v / 2 ^ 32) := by
  apply BitVec.eq_of_toNat_eq
  rw [BitVec.extractLsb'_toNat, BitVec.toNat_ofNat, BitVec.toNat_ofNat, Nat.shiftRight_eq_div_pow, Nat.mod_eq_of_lt hv]

/-- HDR.FRAC on presented bytes that hold the whole field. -/
theorem exec_hdrFrac_of_fits {rescale : Bool} (hfit : s.a0.toNat + s.a1.toNat ≤ s.params.bufBytes)
    (hneed : fieldOffset strip 10 + 4 ≤ s.a1.toNat) {v : Nat}
    (hv : fractionValue rescale (s.read32 (srcBuffer src) (s.a0.toNat + fieldOffset strip 10)) s.a2 = v) :
    exec (.hdrFrac strip rescale src) s = s.done (BitVec.ofNat 32 v) (BitVec.ofNat 32 (v / 2 ^ 32)) := by
  have hlt : v < 2 ^ 64 := Nat.lt_trans (hv ▸ fractionValue_lt _ _ _) (by decide)
  refine (extraction_eq_body hfit hneed).trans ?_
  simp only [rescaledFraction_eq_ofNat, hv, extractLsb'_ofNat_low, extractLsb'_ofNat_high hlt]

/-- Settles O24. -/
theorem hdrFracRescalesExactly : Obligations.HdrFracRescalesExactly := by
  refine ⟨selects_hdrFrac, fun s strip rescale src => ?_⟩
  rw [← srcBuffer_eq_ite]
  exact ⟨extraction_eq_overrun, extraction_eq_malformed,
    fun hfit hneed => ⟨exec_hdrFrac_of_fits hfit hneed rfl, fractionValue_lt _ _ _⟩⟩

/-! ### HDR.STAMP -/

/-- Two complementary masks take the first part of one word and the second part of another. -/
theorem append_or_masks {m n : Nat} (x x' : BitVec m) (y y' : BitVec n) :
    ((x ++ y) &&& (BitVec.allOnes m ++ 0#n)) ||| ((x' ++ y') &&& (0#m ++ BitVec.allOnes n)) = x ++ y' := by
  simp only [BitVec.and_append, BitVec.or_append, BitVec.and_allOnes, BitVec.and_zero, BitVec.or_zero, BitVec.zero_or]

/-- The masks of R176: the top byte of one word, the other 24 bits of another. -/
theorem topByte_or_low24 (x y : Word) :
    (x &&& 0xFF000000) ||| (y &&& 0x00FFFFFF) = x.extractLsb' 24 8 ++ y.extractLsb' 0 24 := by
  have hparts (z : Word) : z = z.extractLsb' 24 8 ++ z.extractLsb' 0 24 :=
    (BitVec.extractLsb'_append_extractLsb' (w := 8) (len := 24)).symm
  conv_lhs => rw [hparts x, hparts y]
  exact append_or_masks _ _ _ _

/-- The fraction word that HDR.STAMP stores. -/
theorem topByte_append_toNat (x y : Word) :
    (x.extractLsb' 24 8 ++ y.extractLsb' 0 24 : Word).toNat = x.toNat / 2 ^ 24 * 2 ^ 24 + y.toNat % 2 ^ 24 := by
  have hx := x.isLt
  rw [toNat_append_eq_add, BitVec.extractLsb'_toNat, BitVec.extractLsb'_toNat, Nat.shiftRight_eq_div_pow,
    Nat.shiftRight_zero, Nat.mod_eq_of_lt (by omega)]

/-- Truncating the fraction count to a register loses none of the 24 bits that are kept. -/
theorem stampCount_toNat_mod (ns timeBase : Word) :
    (stampCount ns timeBase).toNat % 2 ^ 24 = ns.toNat * timeBase.toNat / 1000000000 % 2 ^ 24 := by
  rw [stampCount, BitVec.toNat_ofNat, Nat.mod_mod_of_dvd _ (by decide)]

/-- Settles O25. -/
theorem hdrStampKeepsTheTopByte : Obligations.HdrStampKeepsTheTopByte := by
  refine ⟨selects_hdrStamp, fun s => ⟨fun hns => if_pos hns, fun hbase => ?_, fun hns hbase => ?_⟩⟩
  · change execHdrStamp s = _
    rw [execHdrStamp, if_pos hbase, ite_self]
    rfl
  · refine ⟨_, (if_neg (Nat.not_le.2 hns)).trans (if_neg hbase), ?_⟩
    rw [topByte_or_low24, topByte_append_toNat, stampCount_toNat_mod]
    omega

end Sys2Proof.Machine
end

section
/-! Who writes the configuration and who the codec: every effect of an operation on one of them names the class of operations
that have it (R177, R200e, R300, R305). -/

namespace Sys2Proof.Machine

variable {i : Instr} {s t : State}

/-- An operation outside DATA.BIND and DATA.DECODE leaves `D` and `S`. -/
theorem Effect.codec_eq (he : Effect i s t) (hi : writesCodec i = false) : t.d = s.d ∧ t.samples = s.samples := by
  cases he with
  | unbound hbind => subst hbind; cases hi
  | bound hwrites | decoded hwrites => rw [hwrites] at hi; cases hi
  | _ => exact ⟨rfl, rfl⟩

/-- An operation that is no setter, CFG.INC_CCC or HDR.STAMP leaves `G` and `P`. -/
theorem Effect.config_eq (he : Effect i s t) (hi : writesConfig i = false) : t.g = s.g ∧ t.pmus = s.pmus := by
  cases he with
  | global hwrites | resized hwrites | slot hwrites | everySlot hwrites => rw [hwrites] at hi; cases hi
  | _ => exact ⟨rfl, rfl⟩

/-- Settles O56, by the effect of the operation. -/
theorem codecAndConfigurationAreWrittenApart : Obligations.CodecAndConfigurationAreWrittenApart :=
  fun _ _ _ h => ⟨(exec_effect h).codec_eq, (exec_effect h).config_eq⟩

end Sys2Proof.Machine
end

section
/-! The Configuration Model's scalars: the size of the slot table, the global fields, and the scalar fields, the station name
and the format flags of one slot (R200 to R232, R243 to R245). -/

namespace Sys2Proof.Machine

variable {s : State} {p : PmuIndex} {x : PmuSlot}

/-! ### The words that select the family -/

/-- A row that reads neither of the two other fields. -/
theorem selects_of_plainRow {op : Nat} {i : Instr}
    (hrow : ∀ flg p, decodeFields (BitVec.ofNat 8 op) flg p = .ok i) : Selects op fun _ => i :=
  selects_of_row hrow fun _ => rfl

/-- A row that reads `PMUX` only. -/
theorem selects_of_pmuxRow {op : Nat} {f : PmuIndex → Instr}
    (hrow : ∀ flg p, decodeFields (BitVec.ofNat 8 op) flg p = .ok (f p)) : Selects op fun w => f (cmdPmux w) :=
  selects_of_row hrow fun w => congrArg f (cmd_pmux_eq w)

/-! ### An operation on one slot (R200a) -/

theorem onSlot_eq_failed (h : p.toNat = 0 ∨ s.g.numPmu.toNat < p.toNat) (body : PmuSlot → Result) :
    onSlot s p body = s.failed .indexOutOfRange := by
  simp only [onSlot, slot_eq_none h]

theorem onSlot_eq_body (hx : s.slot p = some x) (body : PmuSlot → Result) : onSlot s p body = body x := by
  simp only [onSlot, hx]

theorem getSlot_eq_done (hx : s.slot p = some x) (field : PmuSlot → Word) :
    getSlot s p field = s.done (field x) 0 := onSlot_eq_body hx _

theorem setSlot_eq_done (hx : s.slot p = some x) (update : PmuSlot → PmuSlot) :
    setSlot s p update = (s.withSlot p (update x)).done 0 0 := onSlot_eq_body hx _

/-! ### The size of the slot table (R201) -/

section
variable {α : Type} {l : List α} {n k : Nat} {fresh : α}

theorem length_take_append_replicate : (l.take n ++ List.replicate (n - l.length) fresh).length = n := by
  rw [List.length_append, List.length_take, List.length_replicate]
  omega

theorem getElem?_take_append_replicate_old (hk : k < n) (hold : k < l.length) :
    (l.take n ++ List.replicate (n - l.length) fresh)[k]? = l[k]? := by
  rw [List.getElem?_append_left (by rw [List.length_take]; omega), List.getElem?_take_of_lt hk]

theorem getElem?_take_append_replicate_fresh (hk : k < n) (hnew : l.length ≤ k) :
    (l.take n ++ List.replicate (n - l.length) fresh)[k]? = some fresh := by
  rw [List.getElem?_append_right (by rw [List.length_take]; omega),
    List.getElem?_replicate_of_lt (by rw [List.length_take]; omega)]

end

/-- Settles O26: the new table is the old one cut to the new count, then fresh slots up to it. -/
theorem setPmuCountKeepsOldSlotsAndAddsFreshOnes : Obligations.SetPmuCountKeepsOldSlotsAndAddsFreshOnes := by
  refine ⟨selects_of_plainRow fun _ _ => rfl, fun s => ⟨fun hover => if_pos hover, fun hcap _ hlen => ?_⟩⟩
  refine ⟨_, if_neg (Nat.not_lt.2 hcap), ?_⟩
  rw [← hlen]
  exact ⟨length_take_append_replicate, fun _ => getElem?_take_append_replicate_old,
    fun _ => getElem?_take_append_replicate_fresh⟩

/-! ### The global fields (R202 to R213) -/

/-- Settles O27: each setter is an update of `G` without a check. -/
theorem globalSettersWriteTheirField : Obligations.GlobalSettersWriteTheirField := by
  refine ⟨List.forall_iff_forall_mem.1 ?_, fun s => ⟨rfl, rfl, rfl, rfl, rfl⟩⟩
  refine ⟨?_, ?_, ?_, ?_, ?_⟩ <;> exact selects_of_plainRow fun _ _ => rfl

/-- Settles O28: each getter is `done` with its field, without a check. -/
theorem globalGettersReadTheirField : Obligations.GlobalGettersReadTheirField := by
  refine ⟨List.forall_iff_forall_mem.1 ?_, fun s => ⟨rfl, rfl, rfl, rfl, rfl, rfl⟩⟩
  refine ⟨?_, ?_, ?_, ?_, ?_, ?_⟩ <;> exact selects_of_plainRow fun _ _ => rfl

/-! ### The scalar fields of a slot (R214 to R224, R243 to R245) -/

/-- A flag that an operand sets, as the statements write it. -/
theorem decide_ne_eq_ite (v w : Word) : decide (v ≠ w) = if v = w then false else true := by
  split
  next h => exact decide_eq_false (not_not_intro h)
  next h => exact decide_eq_true h

/-- A 16-bit count wraps (R224). -/
theorem toNat_half_add_one (h : Half) : (h + 1).toNat = (h.toNat + 1) % 65536 := BitVec.toNat_add h 1

/-- CFG.INC_CCC on a slot, its new count as a number. -/
theorem exec_cfgIncCcc_of_slot (hx : s.slot p = some x) : exec (.cfgIncCcc p) s =
    (s.withSlot p { x with confChangeCount := BitVec.ofNat 16 ((x.confChangeCount.toNat + 1) % 65536) }).done
      (BitVec.ofNat 32 ((x.confChangeCount.toNat + 1) % 65536)) 0 := by
  rw [← toNat_half_add_one, BitVec.ofNat_toNat, BitVec.ofNat_toNat, BitVec.setWidth_eq]
  exact onSlot_eq_body hx _

/-- Settles O29, by the index check of R200a that the four share. -/
theorem pmuScalarSettersWriteTheirField : Obligations.PmuScalarSettersWriteTheirField := by
  refine ⟨List.forall_iff_forall_mem.1 ?_, fun s p => ⟨fun x hpos hle hget => ?_, fun hout => ?_⟩⟩
  · refine ⟨?_, ?_, ?_, ?_⟩ <;> exact selects_of_pmuxRow fun _ _ => rfl
  · have hx : s.slot p = some x := slot_eq_some.2 ⟨hpos, hle, hget⟩
    rw [← decide_ne_eq_ite]
    exact ⟨setSlot_eq_done hx _, setSlot_eq_done hx _, setSlot_eq_done hx _, exec_cfgIncCcc_of_slot hx⟩
  · refine List.forall_iff_forall_mem.1 ⟨?_, ?_, ?_, ?_⟩ <;> exact onSlot_eq_failed hout _

/-- Settles O30, by the index check of R200a that the ten share. -/
theorem pmuScalarGettersReadTheirField : Obligations.PmuScalarGettersReadTheirField := by
  refine ⟨List.forall_iff_forall_mem.1 ?_, fun s p => ⟨fun x hpos hle hget => ?_, fun hout => ?_⟩⟩
  · refine ⟨?_, ?_, ?_, ?_, ?_, ?_, ?_, ?_, ?_, ?_⟩ <;> exact selects_of_pmuxRow fun _ _ => rfl
  · have hx : s.slot p = some x := slot_eq_some.2 ⟨hpos, hle, hget⟩
    refine List.forall_iff_forall_mem.1 ⟨?_, ?_, ?_, ?_, ?_, ?_, ?_, ?_, ?_, ?_⟩ <;> exact getSlot_eq_done hx _
  · refine List.forall_iff_forall_mem.1 ⟨?_, ?_, ?_, ?_, ?_, ?_, ?_, ?_, ?_, ?_⟩ <;> exact onSlot_eq_failed hout _

/-! ### The station name (R211, R216) -/

/-- The padded name as the copied bytes and the spaces. -/
theorem paddedName_toList (s : State) : (paddedName s).toList =
    s.readBytes .argb 0 (min s.a0.toNat 16) ++ List.replicate (16 - s.a0.toNat) 0x20 := by
  apply List.ext_getElem
  · simp only [Vector.length_toList, List.length_append, State.readBytes_length, List.length_replicate]
    omega
  · intro k hk _
    rw [Vector.length_toList] at hk
    simp only [paddedName, Vector.getElem_toList, Vector.getElem_ofFn, List.getElem_append, State.readBytes_length,
      State.readBytes_getElem, List.getElem_replicate, Nat.zero_add, Nat.lt_min, hk, and_true, dite_eq_ite]

/-- Settles O31: the index check comes before the check of `A0`. -/
theorem setStationNameCopiesAndPads : Obligations.SetStationNameCopiesAndPads := by
  refine ⟨selects_of_pmuxRow fun _ _ => rfl, fun s p => ⟨fun x hpos hle hget => ?_, fun hout => onSlot_eq_failed hout _⟩⟩
  have hx : s.slot p = some x := slot_eq_some.2 ⟨hpos, hle, hget⟩
  exact ⟨fun hfit => ⟨_, (onSlot_eq_body hx _).trans (if_neg (Nat.not_lt.2 hfit)), paddedName_toList s⟩,
    fun hover => (onSlot_eq_body hx _).trans (if_pos hover)⟩

/-- A byte sequence that is stored reads back. -/
theorem readBytes_writeBytes_self (s : State) (b : Buffer) (a : Nat) (bs : Bytes) :
    (s.writeBytes b a bs).readBytes b a bs.length = bs := by
  apply List.ext_getElem (State.readBytes_length _ _ _ _)
  intro k _ hk
  rw [State.readBytes_getElem, readByte_writeBytes_getElem s b a k bs hk]

/-- Settles O32: the sixteen bytes read back where they were stored, and no other byte was touched. -/
theorem getStationNameWritesSixteenBytes : Obligations.GetStationNameWritesSixteenBytes := by
  refine ⟨selects_of_pmuxRow fun _ _ => rfl, fun s p => ⟨fun x hpos hle hget => ?_, fun hout => onSlot_eq_failed hout _⟩⟩
  have hx : s.slot p = some x := slot_eq_some.2 ⟨hpos, hle, hget⟩
  have hname := readBytes_writeBytes_self s .argb 0 x.stationName.toList
  rw [Vector.length_toList] at hname
  refine ⟨s.argb.insertBytes 0 x.stationName.toList, _, rfl, onSlot_eq_body hx _, ?_, fun b a hout => ?_⟩
  · exact (State.readBytes_congr fun _ _ => rfl).trans hname
  · exact readByte_writeName s x.stationName b a fun hb => Nat.not_lt.1 fun ha => hout ⟨hb, ha⟩

/-! ### The format flags (R225 to R232) -/

/-- Settles O33, by the index check of R200a that the four share. -/
theorem formatFlagSettersLeaveTheOthers : Obligations.FormatFlagSettersLeaveTheOthers := by
  refine ⟨List.forall_iff_forall_mem.1 ?_, fun s p => ⟨fun x hpos hle hget => ?_, fun hout => ?_⟩⟩
  · refine ⟨?_, ?_, ?_, ?_⟩ <;> exact selects_of_pmuxRow fun _ _ => rfl
  · have hx : s.slot p = some x := slot_eq_some.2 ⟨hpos, hle, hget⟩
    rw [← decide_ne_eq_ite]
    refine List.forall_iff_forall_mem.1 ⟨?_, ?_, ?_, ?_⟩ <;> exact setSlot_eq_done hx _
  · refine List.forall_iff_forall_mem.1 ⟨?_, ?_, ?_, ?_⟩ <;> exact onSlot_eq_failed hout _

end Sys2Proof.Machine
end

section
/-! The Configuration Model's counts, channel names and entries: the resize law, CFG.SET_NAMES, the scope law of the
entry setters and the entry getters (R239 to R242, R246 to R259). -/

namespace Sys2Proof.Machine

variable {s : State} {p : PmuIndex} {x : PmuSlot} {arr : EntryArray} {upd : Word → Word} {w w' : Word}

/-! ### The counts (R239 to R242) -/

/-- The resize law on a slot: its three outcomes. -/
theorem resizeEntries_of_slot (hx : s.slot p = some x) (arr : EntryArray) :
    (arr.capacity s.params < s.a0.toNat → resizeEntries s arr p = s.failed .allocationFailure) ∧
    (s.a0.toNat ≤ arr.capacity s.params → s.a0.toNat = (arr.count x).toNat → resizeEntries s arr p = s.done 0 0) ∧
    (s.a0.toNat ≤ arr.capacity s.params → s.a0.toNat ≠ (arr.count x).toNat → resizeEntries s arr p =
      (s.withSlot p (arr.resized x (s.a0.setWidth 16) (List.replicate s.a0.toNat 0))).done 0 0) := by
  rw [resizeEntries, onSlot_eq_body hx]
  exact ⟨fun hover => if_pos hover, fun hcap hsame => (if_neg (Nat.not_lt.2 hcap)).trans (if_pos hsame),
    fun hcap hother => (if_neg (Nat.not_lt.2 hcap)).trans (if_neg hother)⟩

/-- Settles O34: the resize law, for each of the three arrays. -/
theorem resizeClearsTheEntries : Obligations.ResizeClearsTheEntries := by
  refine ⟨List.forall_iff_forall_mem.1 ?_, fun s p => ⟨fun x hpos hle hget => ?_, fun hout => ?_⟩⟩
  · refine ⟨?_, ?_, ?_⟩ <;> exact selects_of_pmuxRow fun _ _ => rfl
  · have hx : s.slot p = some x := slot_eq_some.2 ⟨hpos, hle, hget⟩
    exact List.forall_iff_forall_mem.1
      ⟨resizeEntries_of_slot hx .phasor, resizeEntries_of_slot hx .analog, resizeEntries_of_slot hx .mask⟩
  · refine List.forall_iff_forall_mem.1 ⟨?_, ?_, ?_⟩ <;> exact onSlot_eq_failed hout _

/-! ### The channel names (R246) -/

/-- Settles O35: a PMU without a phasor fails, and a handle of 0 unbinds. -/
theorem setNamesStoresTheHandle : Obligations.SetNamesStoresTheHandle := by
  refine ⟨selects_of_pmuxRow fun _ _ => rfl, fun s p =>
    ⟨fun x hpos hle hget => ?_, fun hout => onSlot_eq_failed hout _⟩⟩
  have hx : s.slot p = some x := slot_eq_some.2 ⟨hpos, hle, hget⟩
  have hnone : x.numPhasors = 0 ↔ x.numPhasors.toNat < 1 := by rw [Nat.lt_one_iff]; exact BitVec.toNat_inj.symm
  rw [← decide_ne_eq_ite, Ne, hnone]
  exact ⟨fun hlt => (onSlot_eq_body hx _).trans (if_pos hlt), fun hge => (onSlot_eq_body hx _).trans (if_neg hge)⟩

/-! ### One entry (R11, R123) -/

theorem entryIndexOk_eq_true {k : Word} {n : Half} (hpos : 1 ≤ k.toNat) (hle : k.toNat ≤ n.toNat) :
    entryIndexOk k n = true := decide_eq_true ⟨hpos, hle⟩

theorem entryIndexOk_eq_false {k : Word} {n : Half} (hout : k.toNat = 0 ∨ n.toNat < k.toNat) :
    entryIndexOk k n = false := decide_eq_false (by omega)

theorem entryAt_of_getElem? {ws : List Word} {k : Word} (hw : ws[k.toNat - 1]? = some w) : entryAt ws k = w := by
  rw [entryAt, List.getD_eq_getElem?_getD, hw, Option.getD_some]

/-- Bits that a left shift drops need no mask. -/
theorem and_mask_shiftLeft (v : Word) {m k : Nat} (hmk : m + k = 32) :
    (v &&& BitVec.ofNat 32 (2 ^ m - 1)) <<< k = v <<< k := by
  have hle : 2 ^ m ≤ 2 ^ 32 := Nat.pow_le_pow_right (by decide) (by omega)
  have hpos := Nat.two_pow_pos m
  have htwo : 2 ^ 32 = 2 ^ m * 2 ^ k := by rw [← Nat.pow_add, hmk]
  apply BitVec.eq_of_toNat_eq
  have hmask : (2 ^ m - 1) % 2 ^ 32 = 2 ^ m - 1 := Nat.mod_eq_of_lt (by omega)
  rw [BitVec.toNat_shiftLeft, BitVec.toNat_shiftLeft, BitVec.toNat_and, BitVec.toNat_ofNat, hmask,
    Nat.and_two_pow_sub_one_eq_mod, Nat.shiftLeft_eq, Nat.shiftLeft_eq, htwo, Nat.mul_mod_mul_right,
    Nat.mul_mod_mul_right, Nat.mod_mod]

/-- The tag written without masking the operand (R248). -/
theorem setTag_eq (w v : Word) : setTag w v = (v <<< 24) ||| (w &&& 0x00FFFFFF) :=
  congrArg (· ||| (w &&& 0x00FFFFFF)) (and_mask_shiftLeft v (m := 8) rfl)

/-- The normal state written without masking the operand (R255). -/
theorem setNormal_eq (w v : Word) : setNormal w v = (v <<< 16) ||| (w &&& 0x0000FFFF) :=
  congrArg (· ||| (w &&& 0x0000FFFF)) (and_mask_shiftLeft v (m := 16) rfl)

/-! ### The entry setters (R247 to R256, R259) -/

/-- A row that reads `PMUX` and `SCOPE`. -/
theorem selects_of_scopeRow {op : Nat} {f : PmuIndex → Scope → Instr}
    (hrow : ∀ flg p, decodeFields (BitVec.ofNat 8 op) flg p = .ok (f p (Scope.ofBits (flg.extractLsb' 4 2)))) :
    Selects op fun w => f (cmdPmux w) (cmdScope w) :=
  selects_of_row hrow fun w => congrArg₂ f (cmd_pmux_eq w) (cmd_scope_eq w)

/-! Each setter is the scope law with its update of an entry. -/

theorem exec_cfgSetPhf (s : State) (p : PmuIndex) (scope : Scope) :
    exec (.cfgSetPhf p scope) s = setEntries s .phasor p scope fun w => setFactor w s.a1 := rfl

theorem exec_cfgSetPht (s : State) (p : PmuIndex) (scope : Scope) :
    exec (.cfgSetPht p scope) s = setEntries s .phasor p scope fun w => setTag w s.a1 := rfl

theorem exec_cfgSetAnf (s : State) (p : PmuIndex) (scope : Scope) :
    exec (.cfgSetAnf p scope) s = setEntries s .analog p scope fun w => setFactor w s.a1 := rfl

theorem exec_cfgSetAnt (s : State) (p : PmuIndex) (scope : Scope) :
    exec (.cfgSetAnt p scope) s = setEntries s .analog p scope fun w => setTag w s.a1 := rfl

theorem exec_cfgSetMskn (s : State) (p : PmuIndex) (scope : Scope) :
    exec (.cfgSetMskn p scope) s = setEntries s .mask p scope fun w => setNormal w s.a1 := rfl

theorem exec_cfgSetMskv (s : State) (p : PmuIndex) (scope : Scope) :
    exec (.cfgSetMskv p scope) s = setEntries s .mask p scope fun w => setValidity w s.a1 := rfl

/-- `SCOPE` = 0 on an entry that exists. -/
theorem setEntries_one_of_entry (hx : s.slot p = some x) (hpos : 1 ≤ s.a0.toNat)
    (hle : s.a0.toNat ≤ (arr.count x).toNat) (hw : (arr.entries x)[s.a0.toNat - 1]? = some w) (hupd : upd w = w') :
    setEntries s arr p .one upd =
      (s.withSlot p (arr.withEntries x ((arr.entries x).set (s.a0.toNat - 1) w'))).done 0 0 := by
  simp only [setEntries, onSlot_eq_body hx, entryIndexOk_eq_true hpos hle, entryAt_of_getElem? hw, hupd,
    Bool.true_eq_false, if_false]

/-- `SCOPE` = 0 on an entry that does not exist. -/
theorem setEntries_one_eq_failed (hx : s.slot p = some x)
    (hout : s.a0.toNat = 0 ∨ (arr.count x).toNat < s.a0.toNat) :
    setEntries s arr p .one upd = s.failed .indexOutOfRange :=
  (onSlot_eq_body hx _).trans (if_pos (entryIndexOk_eq_false hout))

/-- Settles O36: the setters of one array differ in the half of the entry that they write. -/
theorem entrySettersWriteOneHalfOfOneEntry : Obligations.EntrySettersWriteOneHalfOfOneEntry := by
  refine ⟨List.forall_iff_forall_mem.1 ?_, fun s p => ⟨fun x hpos hle hget => ?_, fun hout => ?_⟩⟩
  · refine ⟨?_, ?_, ?_, ?_, ?_, ?_⟩ <;> exact selects_of_scopeRow fun _ _ => rfl
  · have hx : s.slot p = some x := slot_eq_some.2 ⟨hpos, hle, hget⟩
    refine ⟨fun hk hn w hw => ?phasor, fun hk hn w hw => ?analog, fun hk hn w hw => ?mask, ?outside⟩
    case phasor =>
      rw [exec_cfgSetPhf, exec_cfgSetPht]
      exact ⟨setEntries_one_of_entry hx hk hn hw rfl, setEntries_one_of_entry hx hk hn hw (setTag_eq w s.a1)⟩
    case analog =>
      rw [exec_cfgSetAnf, exec_cfgSetAnt]
      exact ⟨setEntries_one_of_entry hx hk hn hw rfl, setEntries_one_of_entry hx hk hn hw (setTag_eq w s.a1)⟩
    case mask =>
      rw [exec_cfgSetMskn, exec_cfgSetMskv]
      exact ⟨setEntries_one_of_entry hx hk hn hw (setNormal_eq w s.a1), setEntries_one_of_entry hx hk hn hw rfl⟩
    case outside =>
      simp only [List.forall_mem_cons, exec_cfgSetPhf, exec_cfgSetPht, exec_cfgSetAnf, exec_cfgSetAnt,
        exec_cfgSetMskn, exec_cfgSetMskv]
      refine ⟨?_, ?_, ?_, ?_, ?_, ?_, nofun⟩ <;> exact fun hout => setEntries_one_eq_failed hx hout
  · refine List.forall_iff_forall_mem.1 ⟨?_, ?_, ?_, ?_, ?_, ?_⟩ <;> exact onSlot_eq_failed hout _

/-- What an entry setter does in the scopes other than one entry, if it updates a slot's entries as `u` does (R259). -/
structure UpdatesEveryEntry (s : State) (p : PmuIndex) (setter : Scope → Instr) (u : PmuSlot → PmuSlot) : Prop where
  all : ∀ {x}, s.slot p = some x → exec (setter .all) s = (s.withSlot p (u x)).done 0 0
  all_outside : p.toNat = 0 ∨ s.g.numPmu.toNat < p.toNat → exec (setter .all) s = s.failed .indexOutOfRange
  allPmu : exec (setter .allPmu) s = (s.withPmus (s.pmus.map u)).done 0 0
  reserved : exec (setter .reserved) s = s.failed .badParam

/-- A setter that is the scope law updates every entry, whichever way its update is written. -/
theorem UpdatesEveryEntry.of_setEntries {setter : Scope → Instr} {upd' : Word → Word}
    (hexec : ∀ scope, exec (setter scope) s = setEntries s arr p scope upd) (hupd : ∀ w, upd w = upd' w) :
    UpdatesEveryEntry s p setter (arr.updateAll upd') := by
  obtain rfl := funext hupd
  exact {
    all := fun hx => (hexec .all).trans (onSlot_eq_body hx _)
    all_outside := fun hout => (hexec .all).trans (onSlot_eq_failed hout _)
    allPmu := hexec .allPmu
    reserved := hexec .reserved }

/-- Settles O37: each of the six setters is the scope law with its own update of an entry. -/
theorem bulkScopesUpdateEveryEntry : Obligations.BulkScopesUpdateEveryEntry := by
  intro s p factor tag normal validity setters u hu
  have hall : ∀ u ∈ setters, UpdatesEveryEntry s p u.1 u.2 := List.forall_iff_forall_mem.1
    ⟨.of_setEntries (exec_cfgSetPhf s p) fun _ => rfl,
      .of_setEntries (exec_cfgSetPht s p) fun w => setTag_eq w s.a1,
      .of_setEntries (exec_cfgSetAnf s p) fun _ => rfl,
      .of_setEntries (exec_cfgSetAnt s p) fun w => setTag_eq w s.a1,
      .of_setEntries (exec_cfgSetMskn s p) fun w => setNormal_eq w s.a1,
      .of_setEntries (exec_cfgSetMskv s p) fun _ => rfl⟩
  obtain ⟨all, all_outside, allPmu, reserved⟩ := hall u hu
  exact ⟨fun x hpos hle hget => all (slot_eq_some.2 ⟨hpos, hle, hget⟩), all_outside, allPmu, reserved⟩

/-! ### The entry getters (R249, R250, R253, R254, R257, R258) -/

/-! Each getter is `getEntry` with what it makes of an entry. -/

theorem exec_cfgGetPhf (s : State) (p : PmuIndex) :
    exec (.cfgGetPhf p) s = getEntry s .phasor p factorOf := rfl

theorem exec_cfgGetPht (s : State) (p : PmuIndex) :
    exec (.cfgGetPht p) s = getEntry s .phasor p fun w => typeResult s.params.phTypes (tagOf w) := rfl

theorem exec_cfgGetAnf (s : State) (p : PmuIndex) :
    exec (.cfgGetAnf p) s = getEntry s .analog p factorOf := rfl

theorem exec_cfgGetAnt (s : State) (p : PmuIndex) :
    exec (.cfgGetAnt p) s = getEntry s .analog p fun w => typeResult s.params.anTypes (tagOf w) := rfl

theorem exec_cfgGetMskn (s : State) (p : PmuIndex) :
    exec (.cfgGetMskn p) s = getEntry s .mask p fun w => (normalOf w).setWidth 32 := rfl

theorem exec_cfgGetMskv (s : State) (p : PmuIndex) :
    exec (.cfgGetMskv p) s = getEntry s .mask p fun w => (validityOf w).setWidth 32 := rfl

/-- A getter on an entry that exists. -/
theorem getEntry_of_entry {result : Word → Word} (hx : s.slot p = some x) (hpos : 1 ≤ s.a0.toNat)
    (hle : s.a0.toNat ≤ (arr.count x).toNat) (hw : (arr.entries x)[s.a0.toNat - 1]? = some w)
    (hresult : result w = w') : getEntry s arr p result = s.done w' 0 := by
  simp only [getEntry, onSlot_eq_body hx, entryIndexOk_eq_true hpos hle, entryAt_of_getElem? hw, hresult,
    Bool.true_eq_false, if_false]

/-- A getter on an entry that does not exist. -/
theorem getEntry_eq_failed {result : Word → Word} (hx : s.slot p = some x)
    (hout : s.a0.toNat = 0 ∨ (arr.count x).toNat < s.a0.toNat) :
    getEntry s arr p result = s.failed .indexOutOfRange :=
  (onSlot_eq_body hx _).trans (if_pos (entryIndexOk_eq_false hout))

theorem factorOf_eq_ofNat (w : Word) : factorOf w = BitVec.ofNat 32 (w.toNat % 2 ^ 24) := by
  rw [← Nat.and_two_pow_sub_one_eq_mod, BitVec.ofNat_and, BitVec.ofNat_toNat, BitVec.setWidth_eq]
  rfl

/-- The upper part of an entry, as a number. -/
theorem extractLsb'_eq_ofNat_div (w : Word) (k n : Nat) : w.extractLsb' k n = BitVec.ofNat n (w.toNat / 2 ^ k) := by
  rw [BitVec.extractLsb', Nat.shiftRight_eq_div_pow]

/-- A part that ends with the entry keeps its number in a result register. -/
theorem extractLsb'_setWidth_eq_ofNat (w : Word) {k n : Nat} (hn : n + k = 32) :
    (w.extractLsb' k n).setWidth 32 = BitVec.ofNat 32 (w.toNat / 2 ^ k) := by
  have hlt : w.toNat / 2 ^ k < 2 ^ n := Nat.div_lt_of_lt_mul (by rw [← Nat.pow_add, Nat.add_comm, hn]; exact w.isLt)
  rw [extractLsb'_eq_ofNat_div, ← BitVec.ofNat_toNat, BitVec.toNat_ofNat, Nat.mod_eq_of_lt hlt]

theorem validityOf_setWidth (w : Word) : (validityOf w).setWidth 32 = BitVec.ofNat 32 (w.toNat % 2 ^ 16) := by
  rw [validityOf, ← BitVec.ofNat_toNat, BitVec.extractLsb'_toNat, Nat.shiftRight_zero]

/-- The validated tag, as a number (R250, R254). -/
theorem typeResult_tagOf (allowed : List Byte) (w : Word) : typeResult allowed (tagOf w) =
    if BitVec.ofNat 8 (w.toNat / 2 ^ 24) ∈ allowed then BitVec.ofNat 32 (w.toNat / 2 ^ 24) else 0xFF := by
  rw [typeResult, tagOf, extractLsb'_setWidth_eq_ofNat w rfl, extractLsb'_eq_ofNat_div]

/-- Settles O38: the getters of one array differ in the half of the entry that they read. -/
theorem entryGettersReadOneHalfOfOneEntry : Obligations.EntryGettersReadOneHalfOfOneEntry := by
  refine ⟨List.forall_iff_forall_mem.1 ?_, fun s p => ⟨fun x hpos hle hget => ?_, fun hout => ?_⟩⟩
  · refine ⟨?_, ?_, ?_, ?_, ?_, ?_⟩ <;> exact selects_of_pmuxRow fun _ _ => rfl
  · have hx : s.slot p = some x := slot_eq_some.2 ⟨hpos, hle, hget⟩
    refine ⟨fun hk hn w hw => ?phasor, fun hk hn w hw => ?analog, fun hk hn w hw => ?mask, ?outside⟩
    case phasor =>
      rw [exec_cfgGetPhf, exec_cfgGetPht]
      exact ⟨getEntry_of_entry hx hk hn hw (factorOf_eq_ofNat w), getEntry_of_entry hx hk hn hw (typeResult_tagOf _ w)⟩
    case analog =>
      rw [exec_cfgGetAnf, exec_cfgGetAnt]
      exact ⟨getEntry_of_entry hx hk hn hw (factorOf_eq_ofNat w), getEntry_of_entry hx hk hn hw (typeResult_tagOf _ w)⟩
    case mask =>
      rw [exec_cfgGetMskn, exec_cfgGetMskv]
      exact ⟨getEntry_of_entry hx hk hn hw (extractLsb'_setWidth_eq_ofNat w rfl),
        getEntry_of_entry hx hk hn hw (validityOf_setWidth w)⟩
    case outside =>
      simp only [List.forall_mem_cons, exec_cfgGetPhf, exec_cfgGetPht, exec_cfgGetAnf, exec_cfgGetAnt,
        exec_cfgGetMskn, exec_cfgGetMskv]
      refine ⟨?_, ?_, ?_, ?_, ?_, ?_, nofun⟩ <;> exact fun hout => getEntry_eq_failed hx hout
  · refine List.forall_iff_forall_mem.1 ⟨?_, ?_, ?_, ?_, ?_, ?_⟩ <;> exact onSlot_eq_failed hout _

end Sys2Proof.Machine
end

section
/-! The CONFIG frame: CFG.ENCODE emits it byte for byte, and it passes the block's own checks (R110 to R113, R260,
R261). -/

namespace Sys2Proof.Machine

variable {s t : State} {sync : Half} {n : Nat} {frame body : Bytes}

/-! ### A frame that was emitted -/

/-- All that the end of an encoder does: the frame lies in `TXB[0 ..)`, and every other byte reads as before. -/
theorem exists_frameDone (s : State) (hlen : frame.length = n) : ∃ m : Memory, ∃ t : State,
    t = { s with
      txb := m, txLen := BitVec.ofNat 16 n, cur := none, status := 0, r0 := BitVec.ofNat 32 n, r1 := 0 } ∧
    s.frameDone frame = .next t ∧ t.readBytes .txb 0 n = frame ∧
    ∀ b a, ¬ (b = .txb ∧ a < n) → t.readByte b a = s.readByte b a := by
  subst hlen
  refine ⟨_, (s.emitFrame frame).ended 0 (BitVec.ofNat 32 frame.length) 0, rfl, rfl, ?_, fun b a hout => ?_⟩
  · have hread := readBytes_emitFrame s frame []
    rw [List.append_nil] at hread
    exact (State.readBytes_congr fun _ _ => State.readByte_ended _ _ _ _ _ _).trans hread
  · rw [State.readByte_ended, State.readByte_emitFrame, dif_neg hout]

/-- A frame with the common header holds its SYNC word at offset 0. -/
theorem read16_emitFrame_sync (s : State) {g : Global} (h : commonHeader g sync n <+: frame) :
    (s.emitFrame frame).read16 .txb 0 = sync := by
  obtain ⟨post, rfl⟩ := h
  have hread := read16_emitFrame s [] (bytesBe16 (BitVec.ofNat 16 n) ++ bytesBe16 g.idCode ++
    bytesBe32 g.epochSeconds ++ bytesBe32 g.fracOfSecond ++ post) sync
  simpa only [commonHeader, List.append_assoc, List.nil_append, List.length_nil] using hread

/-! ### The bytes of a CONFIG frame -/

theorem bytesBe16_configSync (kind : Word) :
    bytesBe16 (configSync kind) = if kind = 1 then [0xAA, 0x21] else [0xAA, 0x31] := by
  unfold configSync; split <;> rfl

theorem bytesBe16_nominalFreq16 (x : PmuSlot) : bytesBe16 (nominalFreq16 x) = [0, if x.nominalFreq then 1 else 0] := by
  unfold nominalFreq16; split <;> rfl

theorem namesShort_iff {x : PmuSlot} :
    namesShort s x = true ↔ x.namesBound = true ∧ s.nameCount x.namesHandle < channelCount s.params x := by
  rw [namesShort, Bool.and_eq_true, decide_eq_true_iff]

/-! ### The checks of CFG.ENCODE, in their order -/

/-- A frame kind that is asked for passes the two checks of `A0`. -/
theorem exec_cfgEncode_of_kind (hkind : s.a0 = 1 ∨ s.a0 = 2) : exec .cfgEncode s =
    if configLength s > 65535 then s.failed .sizeOverflow
    else if s.pmus.any (namesShort s) then s.failed .namesShort
    else s.frameDone (withTrailer s.params.crcShift3 (configBody s (configSync s.a0))) := by
  have hsupported : s.a0 ≠ 3 := by rcases hkind with h | h <;> rw [h] <;> decide
  have hknown : ¬ (s.a0 ≠ 1 ∧ s.a0 ≠ 2) := by tauto
  exact (if_neg hsupported).trans (if_neg hknown)

/-- Settles O39: the checks in their order, then the frame, which has the length that was checked. -/
theorem cfgEncodeEmitsTheConfigFrame : Obligations.CfgEncodeEmitsTheConfigFrame := by
  refine ⟨selects_of_plainRow fun _ _ => rfl, fun s hinv => ?_⟩
  intro c n size short format block body
  have hshort : short ↔ s.pmus.any (namesShort s) = true := by simp only [List.any_eq_true, namesShort_iff]; rfl
  have hblock : configBlock s = block := by
    funext x
    rw [configBlock, bytesBe16_nominalFreq16]
    rfl
  have hbody : configBody s (configSync s.a0) = body := by
    rw [configBody, commonHeader, bytesBe16_configSync, hblock]
    rfl
  refine ⟨fun h3 => if_pos h3, fun h1 h2 h3 => (if_neg h3).trans (if_pos ⟨h1, h2⟩), fun hkind => ?_⟩
  rw [exec_cfgEncode_of_kind hkind, hshort]
  refine ⟨fun hover => if_pos hover, fun hfit hnames => (if_neg (Nat.not_lt.2 hfit)).trans (if_pos hnames),
    fun hfit hnames => ?_⟩
  have hlen := configBody_length hinv.slots (Bool.eq_false_iff.2 hnames) (configSync s.a0)
  have hfit : ¬ configLength s > 65535 := Nat.not_lt.2 hfit
  rw [if_neg hfit, if_neg hnames, ← hbody]
  exact exists_frameDone s ((withTrailer_length _ _).trans hlen)

/-! ### The frame passes the block's own checks -/

theorem EmitsFrame.read16_zero (hf : EmitsFrame s t sync body) : t.read16 .txb 0 = sync := by
  have hsync := read16_emitFrame_sync s (hf.header_withTrailer s.params.crcShift3)
  rw [hf.next]
  exact hsync

/-- The state that presents the frame in `TXB` to the operation that reads it. -/
def State.presentingTx (t : State) : State := { t with a0 := 0, a1 := t.txLen.setWidth 32 }

theorem State.presentingTx_a1 (t : State) : t.presentingTx.a1.toNat = t.txLen.toNat :=
  BitVec.toNat_setWidth_of_le (by decide)

/-- A frame lies in `TXB` whole. -/
theorem State.presentingTx_fits (hbuf : t.params.bufBytes = 65536) :
    t.presentingTx.a0.toNat + t.presentingTx.a1.toNat ≤ t.presentingTx.params.bufBytes := by
  have hlt := t.txLen.isLt
  rw [t.presentingTx_a1, show t.presentingTx.params.bufBytes = 65536 from hbuf]
  change 0 + t.txLen.toNat ≤ 65536
  omega

/-- CRC.CHECK passes an emitted frame (R261). -/
theorem EmitsFrame.exec_crcCheck (hf : EmitsFrame s t sync body) (hbuf : t.params.bufBytes = 65536) :
    ∃ r, exec (.crcCheck false .txb) t.presentingTx = t.presentingTx.done 1 r := by
  have hsize := hf.size_ge
  rw [← hf.txLen_toNat] at hsize
  have hcheck := exec_crcCheck_of_fits (hdr := false) (src := .txb) (s := t.presentingTx)
    (by rw [t.presentingTx_a1]; omega) (State.presentingTx_fits hbuf)
  have hcrc : presentedCrc t.presentingTx false .txb (t.txLen.toNat - 2) =
      t.presentingTx.read16 .txb (0 + t.txLen.toNat - 2) := by
    rw [State.presentingTx, presentedCrc_withRange, Nat.zero_add]
    exact hf.read16_trailer.symm
  rw [t.presentingTx_a1] at hcheck
  exact ⟨_, hcheck.trans (if_pos hcrc)⟩

/-- HDR.TYPE returns the kind of an emitted frame's SYNC word (R261). -/
theorem EmitsFrame.exec_hdrType (hf : EmitsFrame s t sync body) (hbuf : t.params.bufBytes = 65536) {b0 b1 : Byte}
    (hsync : sync = b0 ++ b1) (hkind : frameKindOf b0 b1 ≠ .invalid) : exec (.hdrType .txb) t.presentingTx =
      t.presentingTx.done (frameKindCode (frameKindOf b0 b1)) (b1.setWidth 32) := by
  have hbytes := readBytes_two t .txb 0
  rw [hf.read16_zero, hsync, bytesBe16, BitVec.extractLsb'_append_eq_left, BitVec.extractLsb'_append_eq_right] at hbytes
  obtain ⟨hb0, hb1⟩ : t.readByte .txb 0 = b0 ∧ t.readByte .txb 1 = b1 := by
    simpa only [State.readBytes, List.cons.injEq, and_true] using hbytes
  have hsize := hf.size_ge
  rw [← hf.txLen_toNat] at hsize
  have htype := exec_hdrType_of_fits (src := .txb) (State.presentingTx_fits hbuf)
    (by rw [t.presentingTx_a1]; omega) hb0 hb1
  exact htype.trans (if_neg hkind)

/-- The SYNC word of a CONFIG frame, read as HDR.TYPE reads it. -/
theorem configSync_kind (kind : Word) : ∃ b1 : Byte, configSync kind = 0xAA#8 ++ b1 ∧
    frameKindOf 0xAA b1 ≠ .invalid ∧ frameKindCode (frameKindOf 0xAA b1) = if kind = 1 then 3 else 4 := by
  unfold configSync
  split
  · exact ⟨0x21, rfl, nofun, rfl⟩
  · exact ⟨0x31, rfl, nofun, rfl⟩

/-- Settles O40: what holds of every emitted frame, and the kind of a CONFIG frame's SYNC word. -/
theorem configFrameStatesItsSizeAndPassesItsCheck : Obligations.ConfigFrameStatesItsSizeAndPassesItsCheck := by
  intro s t hinv h hok
  have hf := EmitsFrame.of_cfgEncode hinv hok h
  have hbuf : t.params.bufBytes = 65536 := by
    obtain ⟨-, hbuf, -⟩ := Params.wf_iff.1 hinv.params
    rw [hf.next]
    exact hbuf
  obtain ⟨b1, hsync, hvalid, hkind⟩ := configSync_kind s.a0
  refine ⟨hf.read16_two, hf.read16_trailer, hf.exec_crcCheck hbuf, b1.setWidth 32, ?_⟩
  rw [← hkind]
  exact hf.exec_hdrType hbuf hsync hvalid

end Sys2Proof.Machine
end

section
/-! The HEADER frame: HDRF.BUILD emits the common header, the text in `ARGB` and the CRC (R116, R280). -/

namespace Sys2Proof.Machine

variable {s : State}

theorem selects_hdrfBuild : Selects 0x71 (fun w => .hdrfBuild (cmdFlag 0 w)) :=
  selects_of_row (fun _ _ => rfl) fun w => congrArg Instr.hdrfBuild (cmd_flag0_eq w)

/-! ### The outcomes of HDRF.BUILD, in the order of its checks -/

theorem exec_hdrfBuild_absent (s : State) : exec (.hdrfBuild false) s = s.failed .textAbsent := rfl

theorem exec_hdrfBuild_overrun (hlong : s.params.argBytes < s.a0.toNat) :
    exec (.hdrfBuild true) s = s.failed .overrun := if_pos hlong

/-- A present text that lies in `ARGB` leaves the check of the frame's size. -/
theorem exec_hdrfBuild_of_fits (hfit : s.a0.toNat ≤ s.params.argBytes) : exec (.hdrfBuild true) s =
    if 16 + s.a0.toNat > 65535 then s.failed .sizeOverflow
    else s.frameDone (withTrailer s.params.crcShift3 (headerBody s s.a0.toNat)) :=
  if_neg (Nat.not_lt.2 hfit)

/-- The trailer ends a HEADER frame at `16 + T` (R116). -/
theorem headerFrame_length (s : State) (k n : Nat) : (withTrailer k (headerBody s n)).length = 16 + n := by
  rw [withTrailer_length, headerBody_length]; omega

/-- Settles O41: the checks in their order, then the frame, which has the length that was checked. -/
theorem hdrfBuildEmitsTheHeaderFrame : Obligations.HdrfBuildEmitsTheHeaderFrame := by
  refine ⟨selects_hdrfBuild, fun s => ?_⟩
  intro n body
  have hbody : headerBody s n = body := rfl
  refine ⟨exec_hdrfBuild_absent s, exec_hdrfBuild_overrun, fun hfit hover => ?_, fun hfit hsize => ?_⟩
  · have hover : 16 + s.a0.toNat > 65535 := by omega
    exact (exec_hdrfBuild_of_fits hfit).trans (if_pos hover)
  · have hsize : ¬ 16 + s.a0.toNat > 65535 := by omega
    rw [exec_hdrfBuild_of_fits hfit, if_neg hsize, ← hbody]
    exact exists_frameDone s (headerFrame_length s _ n)

end Sys2Proof.Machine
end

section
/-! CMD.CLASSIFY: the kind of a command word, from `A0` or from the presented bytes (R290). -/

namespace Sys2Proof.Machine

variable {s : State} {src : Source}

theorem selects_cmdClassify : Selects 0x80 (fun w => .cmdClassify (cmdFlag 0 w) (cmdSource w)) :=
  selects_of_row (fun _ _ => rfl) fun w => congrArg₂ Instr.cmdClassify (cmd_flag0_eq w) (cmd_source_eq w)

/-! ### The code of a word's kind -/

/-- R290's cases with R133's codes. -/
theorem commandKindCode_commandKindOf (w : Half) : commandKindCode (commandKindOf w) =
    if w = 1 then 1 else if w = 2 then 2 else if w = 3 then 3 else if w = 4 then 4 else if w = 5 then 5
    else if w = 6 then 6 else if w = 8 then 7 else if w &&& 0x0F00 = 0x0F00 then 8 else 0 := by
  simp only [commandKindOf, apply_ite commandKindCode]
  rfl

/-! ### The outcomes of CMD.CLASSIFY, in the order of its checks -/

theorem exec_cmdClassify_word (s : State) (src : Source) :
    exec (.cmdClassify false src) s = classified s (s.a0.setWidth 16) := rfl

theorem exec_cmdClassify_overrun (hover : s.params.bufBytes < s.a0.toNat + s.a1.toNat) :
    exec (.cmdClassify true src) s = s.failed .overrun := if_pos (presentedFits_eq_false hover)

/-- Presented bytes in the buffer leave the check that the word at `A2` is among them. -/
theorem exec_cmdClassify_of_fits (hfit : s.a0.toNat + s.a1.toNat ≤ s.params.bufBytes) :
    exec (.cmdClassify true src) s =
      if s.a2.toNat + 2 > s.a1.toNat then s.failed .malformedFrame
      else classified s (s.read16 (srcBuffer src) (s.a0.toNat + s.a2.toNat)) :=
  if_neg (by rw [presentedFits_eq_true hfit]; exact Bool.noConfusion)

/-- Settles O43: the word of each mode is classified by the same table, after the checks of its mode. -/
theorem cmdClassifyGivesTheKind : Obligations.CmdClassifyGivesTheKind := by
  refine ⟨selects_cmdClassify, fun s src => ?_⟩
  rw [← srcBuffer_eq_ite, BitVec.ofNat_toNat]
  intro kind word framed
  have hclassified : ∀ w, classified s w = .next { s with status := 0, r0 := kind w, r1 := w.setWidth 32 } := fun w => by
    rw [classified, commandKindCode_commandKindOf]
    rfl
  refine ⟨(exec_cmdClassify_word s src).trans (hclassified word), exec_cmdClassify_overrun, fun hfit hshort => ?_,
    fun hfit hneed => ?_⟩
  · exact (exec_cmdClassify_of_fits hfit).trans (if_pos hshort)
  · rw [exec_cmdClassify_of_fits hfit, if_neg (Nat.not_lt.2 hneed)]
    exact hclassified framed

end Sys2Proof.Machine
end

section
/-! The Data Frame Codec's snapshot, its sizes and its accessors (R300, R302, R308 to R315). -/

namespace Sys2Proof.Machine

variable {s : State} {p : PmuIndex} {x : SampleSlot}

/-! ### DATA.BIND (R300) -/

/-- What of a snapshot comes of its slot alone is listed in the order of the slots. -/
theorem bindSlots_map {α : Type} {f : SampleSlot → α} {g : PmuSlot → α} {bind : Nat}
    (h : ∀ p x, f (bindSlot bind p x) = g x) (p : Nat) (xs : List PmuSlot) :
    (bindSlots bind p xs).map f = xs.map g := by
  induction xs generalizing p with
  | nil => rfl
  | cons x xs ih => exact congrArg₂ List.cons (h p x) (ih (p + 1))

/-- Settles O44: the request that is checked is the configuration's, and a snapshot's fresh registers have its counts. -/
theorem dataBindTakesTheSnapshot : Obligations.DataBindTakesTheSnapshot := by
  refine ⟨selects_of_plainRow fun _ _ => rfl, fun s _ => ?_⟩
  intro request
  refine ⟨fun hrefused => if_pos hrefused, fun hok => ?_⟩
  have haccepted : ¬ s.params.bindAllocOk s.bindRequest = false := fun h => Bool.noConfusion (hok.symm.trans h)
  refine ⟨bindSlots s.binds 1 s.pmus, if_neg haccepted, bindSlots_map (fun _ _ => rfl) _ _, fun y hy => ?_⟩
  obtain ⟨hcounts, -⟩ := SampleSlot.wf_iff.1 (bindSlots_wf _ _ _ y hy)
  exact hcounts

/-! ### The snapshot entry that an index names (R11, R309) -/

theorem not_unbound (hbound : s.d.bound = true) : ¬ s.d.bound = false := by rw [hbound]; exact Bool.noConfusion

theorem sampleSlot_eq_some (hpos : 1 ≤ p.toNat) (hle : p.toNat ≤ s.d.boundN.toNat)
    (hget : s.samples[p.toNat - 1]? = some x) : s.sampleSlot p = some x := (if_pos ⟨hpos, hle⟩).trans hget

theorem sampleSlot_eq_none (h : p.toNat = 0 ∨ s.d.boundN.toNat < p.toNat) : s.sampleSlot p = none :=
  if_neg (by omega)

/-! ### DATA.SIZE (R308) -/

theorem exec_dataSize_frame (hbound : s.d.bound = true) : exec (.dataSize 0) s = done64 s (frameBytes s) :=
  if_neg (not_unbound hbound)

/-- An index other than 0 asks for one block, if it names one. -/
theorem exec_dataSize_index (hbound : s.d.bound = true) (hp : 1 ≤ p.toNat) : exec (.dataSize p) s =
    (s.sampleSlot p).elim (s.failed .indexOutOfRange) fun x => done64 s (blockBytes x) := by
  have hne : p ≠ 0 := fun h => by rw [h] at hp; exact absurd hp (by decide)
  refine (if_neg (not_unbound hbound)).trans ((if_neg hne).trans ?_)
  cases s.sampleSlot p <;> rfl

/-- Settles O49. -/
theorem dataSizeIsTheSizeFormula : Obligations.DataSizeIsTheSizeFormula := by
  refine ⟨selects_of_pmuxRow fun _ _ => rfl, fun s p => ?_⟩
  intro wid db size
  refine ⟨fun hunbound => if_pos hunbound, fun hbound => ⟨exec_dataSize_frame hbound, fun hout => ?_,
    fun x hpos hle hget => ?_⟩⟩
  · rw [exec_dataSize_index hbound (by omega), sampleSlot_eq_none (.inr hout)]
    rfl
  · rw [exec_dataSize_index hbound hpos, sampleSlot_eq_some hpos hle hget]
    rfl

/-! ### The accessor law without an entry index (R309) -/

section
variable {valid : Bool} {result : SampleSlot → Result}

theorem accessSample_unbound (h : s.d.bound = false) : accessSample s p valid result = s.failed .notBound := if_pos h

theorem accessSample_outside (hbound : s.d.bound = true) (h : p.toNat = 0 ∨ s.d.boundN.toNat < p.toNat) :
    accessSample s p valid result = s.failed .indexOutOfRange := by
  rw [accessSample, if_neg (not_unbound hbound), sampleSlot_eq_none h]

/-- An entry of the snapshot leaves the check of the valid flag. -/
theorem accessSample_of_slot (hbound : s.d.bound = true) (hx : s.sampleSlot p = some x) :
    accessSample s p valid result = if valid = false then s.failed .noSample else result x := by
  rw [accessSample, if_neg (not_unbound hbound), hx]

theorem accessSample_noSample (hbound : s.d.bound = true) (hx : s.sampleSlot p = some x) (hvalid : valid = false) :
    accessSample s p valid result = s.failed .noSample := (accessSample_of_slot hbound hx).trans (if_pos hvalid)

theorem accessSample_eq_result (hbound : s.d.bound = true) (hx : s.sampleSlot p = some x) (hvalid : valid = true) :
    accessSample s p valid result = result x :=
  (accessSample_of_slot hbound hx).trans (if_neg (by rw [hvalid]; exact Bool.noConfusion))

end

/-! ### The accessor law with an entry index (R309) -/

section
variable {α : Type} {count : SampleSlot → Half} {entries : SampleSlot → List α} {result : α → Result}

theorem accessEntry_unbound (h : s.d.bound = false) : accessEntry s p count entries result = s.failed .notBound :=
  if_pos h

theorem accessEntry_outside (hbound : s.d.bound = true) (h : p.toNat = 0 ∨ s.d.boundN.toNat < p.toNat) :
    accessEntry s p count entries result = s.failed .indexOutOfRange := by
  rw [accessEntry, if_neg (not_unbound hbound), sampleSlot_eq_none h]

/-- An entry of the snapshot leaves the checks of the entry index, of the sample and of the array. -/
theorem accessEntry_of_slot (hbound : s.d.bound = true) (hx : s.sampleSlot p = some x) :
    accessEntry s p count entries result =
      if entryIndexOk s.a0 (count x) = false then s.failed .indexOutOfRange
      else if s.d.sampleValid = false then s.failed .noSample
      else (entries x)[s.a0.toNat - 1]?.elim (s.failed .indexOutOfRange) result := by
  rw [accessEntry, if_neg (not_unbound hbound), hx]
  cases h : (entries x)[s.a0.toNat - 1]? <;> simp only [h] <;> rfl

theorem accessEntry_index (hbound : s.d.bound = true) (hx : s.sampleSlot p = some x)
    (hk : s.a0.toNat = 0 ∨ (count x).toNat < s.a0.toNat) :
    accessEntry s p count entries result = s.failed .indexOutOfRange :=
  (accessEntry_of_slot hbound hx).trans (if_pos (decide_eq_false (by omega)))

/-- An index within the count leaves the checks of the sample and of the array. -/
theorem accessEntry_of_index (hbound : s.d.bound = true) (hx : s.sampleSlot p = some x) (hpos : 1 ≤ s.a0.toNat)
    (hle : s.a0.toNat ≤ (count x).toNat) : accessEntry s p count entries result =
      if s.d.sampleValid = false then s.failed .noSample
      else (entries x)[s.a0.toNat - 1]?.elim (s.failed .indexOutOfRange) result := by
  have hok : entryIndexOk s.a0 (count x) = true := decide_eq_true ⟨hpos, hle⟩
  rw [accessEntry_of_slot hbound hx, hok, if_neg Bool.noConfusion]

theorem accessEntry_noSample (hbound : s.d.bound = true) (hx : s.sampleSlot p = some x) (hpos : 1 ≤ s.a0.toNat)
    (hle : s.a0.toNat ≤ (count x).toNat) (hvalid : s.d.sampleValid = false) :
    accessEntry s p count entries result = s.failed .noSample :=
  (accessEntry_of_index hbound hx hpos hle).trans (if_pos hvalid)

theorem accessEntry_eq_result (hbound : s.d.bound = true) (hx : s.sampleSlot p = some x) (hpos : 1 ≤ s.a0.toNat)
    (hle : s.a0.toNat ≤ (count x).toNat) (hvalid : s.d.sampleValid = true) {v : α}
    (hv : (entries x)[s.a0.toNat - 1]? = some v) : accessEntry s p count entries result = result v := by
  rw [accessEntry_of_index hbound hx hpos hle, hvalid, if_neg Bool.noConfusion, hv]
  rfl

end

/-! ### The accessors (R310 to R315) -/

theorem Value.word_int16 (h : Half) : Value.word (.int16 h) = BitVec.ofNat 32 h.toNat := (BitVec.ofNat_toNat 32 h).symm

/-- Settles O50: past its checks each accessor is `done` with its value. -/
theorem accessorsReturnTheSampleValues : Obligations.AccessorsReturnTheSampleValues := by
  refine ⟨List.forall_iff_forall_mem.1 ?_, fun s p x hbound hpos hle hget => ?_⟩
  · refine ⟨?_, ?_, ?_, ?_, ?_, ?_⟩ <;> exact selects_of_pmuxRow fun _ _ => rfl
  intro k reg
  have hx := sampleSlot_eq_some hpos hle hget
  have hreg : reg = Value.word := funext fun v => by
    cases v with
    | int16 h => exact (Value.word_int16 h).symm
    | float32 w => rfl
  simp only [hreg, BitVec.ofNat_toNat]
  refine ⟨fun hvalid => ⟨fun hk hcount v => ?_, fun hk hcount v => ?_, fun hk hcount v => ?_, ?_, ?_⟩, fun hvalid => ?_⟩
  · exact accessEntry_eq_result hbound hx hk hcount hvalid
  · exact accessEntry_eq_result hbound hx hk hcount hvalid
  · exact accessEntry_eq_result hbound hx hk hcount hvalid
  · exact accessSample_eq_result hbound hx hvalid
  · exact accessSample_eq_result hbound hx hvalid
  · exact accessSample_eq_result hbound hx hvalid

/-- Settles O51, check by check: each is made alike by the accessors that share it. -/
theorem accessorChecksComeInOrder : Obligations.AccessorChecksComeInOrder := by
  intro s p indexed single
  refine ⟨fun hunbound => List.forall_iff_forall_mem.1 ?_, fun hbound hout => List.forall_iff_forall_mem.1 ?_,
    fun hbound x hpos hle hget => ?_⟩
  · exact ⟨accessEntry_unbound hunbound, accessEntry_unbound hunbound, accessEntry_unbound hunbound,
      accessSample_unbound hunbound, accessSample_unbound hunbound, accessSample_unbound hunbound⟩
  · exact ⟨accessEntry_outside hbound hout, accessEntry_outside hbound hout, accessEntry_outside hbound hout,
      accessSample_outside hbound hout, accessSample_outside hbound hout, accessSample_outside hbound hout⟩
  · have hx := sampleSlot_eq_some hpos hle hget
    refine ⟨List.forall_iff_forall_mem.1 ⟨?_, ?_, ?_⟩, fun hvalid => List.forall_iff_forall_mem.1 ⟨?_, ?_⟩,
      accessSample_noSample hbound hx⟩
    · exact ⟨accessEntry_index hbound hx, accessEntry_noSample hbound hx⟩
    · exact ⟨accessEntry_index hbound hx, accessEntry_noSample hbound hx⟩
    · exact ⟨accessEntry_index hbound hx, accessEntry_noSample hbound hx⟩
    · exact accessSample_noSample hbound hx hvalid
    · exact accessSample_noSample hbound hx hvalid

end Sys2Proof.Machine
end

section
/-! DATA.DECODE: the sequential reader of the model reads every value at its place in R118's layout (R302, R305, R306). -/

namespace Sys2Proof.Machine

variable {s : State} {ich : Bool} {src : Source}

/-! ### The place of what is taken -/

/-- Items that each advance `CUR` by `k` lie `k` bytes apart. -/
theorem takeMany_fst {α : Type} {one : Nat → α × Nat} {k : Nat} (h : ∀ c, (one c).2 = c + k) (n cur : Nat) :
    (takeMany one n cur).1 = (List.range n).map fun i => (one (cur + k * i)).1 := by
  induction n generalizing cur with
  | zero => rfl
  | succ n ih =>
    have hplace (i : Nat) : cur + k + k * i = cur + k * (i + 1) := by rw [Nat.mul_add_one]; omega
    rw [takeMany, h, ih, List.range_succ_eq_map, List.map_cons, List.map_map]
    simp only [hplace]
    rfl

/-- The value of a class's width at a place (R301). -/
def State.valueAt (s : State) (b : Buffer) (wide : Bool) (a : Nat) : Value :=
  if wide then .float32 (s.read32 b a) else .int16 (s.read16 b a)

@[simp] theorem takeValue_fst (s : State) (b : Buffer) (wide : Bool) (cur : Nat) :
    (takeValue s b wide cur).1 = s.valueAt b wide cur := by cases wide <;> rfl

@[simp] theorem takePair_fst (s : State) (b : Buffer) (wide : Bool) (cur : Nat) :
    (takePair s b wide cur).1 = (s.valueAt b wide cur, s.valueAt b wide (cur + widthOf wide)) := by
  rw [takePair, takeValue_fst, takeValue_fst, takeValue_cur]

@[simp] theorem takeHalf_fst (s : State) (b : Buffer) (cur : Nat) : (takeHalf s b cur).1 = s.read16 b cur := rfl

theorem takeHalf_cur (s : State) (b : Buffer) (cur : Nat) : (takeHalf s b cur).2 = cur + 2 := rfl

/-- A PMU's slot with the sample that lies at `start`, each value at its place (R118, R305). -/
def State.blockAt (s : State) (b : Buffer) (ich : Bool) (x : SampleSlot) (start : Nat) : SampleSlot :=
  let phasors := start + if ich then 2 else 0
  let analogs := phasors + 2 * widthOf x.snapPhw * x.snapNph.toNat
  let freq := analogs + widthOf x.snapAnw * x.snapNan.toNat
  let digital := freq + 2 * widthOf x.snapFqw
  { x with
    stat := if ich then s.read16 b start else x.stat
    ph := (List.range x.snapNph.toNat).map fun k =>
      (s.valueAt b x.snapPhw (phasors + 2 * widthOf x.snapPhw * k),
        s.valueAt b x.snapPhw (phasors + 2 * widthOf x.snapPhw * k + widthOf x.snapPhw))
    an := (List.range x.snapNan.toNat).map fun k => s.valueAt b x.snapAnw (analogs + widthOf x.snapAnw * k)
    fdev := s.valueAt b x.snapFqw freq
    rocof := s.valueAt b x.snapFqw (freq + widthOf x.snapFqw)
    dig := (List.range x.snapNst.toNat).map fun k => s.read16 b (digital + 2 * k) }

theorem takeBlock_fst (s : State) (b : Buffer) (ich : Bool) (x : SampleSlot) (cur : Nat) :
    (takeBlock s b ich x cur).1 = s.blockAt b ich x cur := by
  have hstat : (if ich then takeHalf s b cur else (x.stat, cur)) =
      (if ich then s.read16 b cur else x.stat, cur + if ich then 2 else 0) := by cases ich <;> rfl
  have hpairs := takePair_cur s b x.snapPhw
  have hvalues := takeValue_cur s b x.snapAnw
  have hhalves := takeHalf_cur s b
  simp only [takeBlock, State.blockAt, hstat, takeMany_fst hpairs, takeMany_fst hvalues, takeMany_fst hhalves,
    takeMany_cur _ _ hpairs, takeMany_cur _ _ hvalues, takeValue_cur, takeValue_fst, takePair_fst, takeHalf_fst,
    Nat.mul_comm x.snapNph.toNat, Nat.mul_comm x.snapNan.toNat, Nat.two_mul (widthOf x.snapFqw), Nat.add_assoc]

/-- The bytes of one PMU's block in what is decoded (R302, R305). -/
def decodedBytes (ich : Bool) (x : SampleSlot) : Nat := if ich then blockBytes x else sampleBytes x

/-- Each block lies after those of the PMUs before it. -/
theorem takeBlocks_getElem? (s : State) (b : Buffer) (ich : Bool) (xs : List SampleSlot) (cur : Nat) {p : Nat}
    {x : SampleSlot} (hx : xs[p]? = some x) : (takeBlocks s b ich xs cur).1[p]? =
      some (s.blockAt b ich x (cur + ((xs.take p).map (decodedBytes ich)).sum)) := by
  induction xs generalizing cur p with
  | nil => cases hx
  | cons y ys ih =>
    cases p with
    | zero =>
      cases hx
      exact congrArg some (takeBlock_fst s b ich x cur)
    | succ p =>
      have hcur : (takeBlock s b ich y cur).2 = cur + decodedBytes ich y := takeBlock_cur s b ich y cur
      simpa only [takeBlocks, hcur, List.getElem?_cons_succ, List.take_succ_cons, List.map_cons, List.sum_cons,
        Nat.add_assoc] using ih (cur + decodedBytes ich y) hx

/-! ### The outcomes of DATA.DECODE, in the order of its checks -/

/-- The blocks, and with the common header its 12 bytes and the CRC's two (R302, R305). -/
theorem neededBytes_eq (s : State) (ich : Bool) :
    neededBytes s ich = (s.samples.map (decodedBytes ich)).sum + if ich then 14 else 0 := by
  cases ich with
  | false => rfl
  | true =>
    change 16 + (s.samples.map blockBytes).sum - 2 = (s.samples.map blockBytes).sum + 14
    omega

/-- Where the first block lies (R305). -/
def State.blocksStart (s : State) (ich : Bool) : Nat := s.a0.toNat + if ich then 12 else 0

/-- What DATA.DECODE makes of the sample registers (R305). -/
def State.decodedSamples (s : State) (ich : Bool) (src : Source) : List SampleSlot :=
  (takeBlocks s (srcBuffer src) ich s.samples (s.blocksStart ich)).1

/-- A decode past its checks consumes the bytes that it needs (R305). -/
theorem exec_dataDecode_of_bound (hbound : s.d.bound = true) : exec (.dataDecode ich src) s =
    if s.presentedFits = false then s.failed .overrun
    else if neededBytes s ich > s.a1.toNat then s.failed .overrun
    else (s.decoded ich (s.decodedSamples ich src)).done (BitVec.ofNat 32 (neededBytes s ich)) 0 := by
  have hstart : (if ich then s.a0.toNat + 12 else s.a0.toNat) = s.blocksStart ich := by cases ich <;> rfl
  have hlast : (if ich then (takeBlocks s (srcBuffer src) ich s.samples (s.blocksStart ich)).2 + 2
      else (takeBlocks s (srcBuffer src) ich s.samples (s.blocksStart ich)).2) - s.a0.toNat = neededBytes s ich := by
    have hsum : (takeBlocks s (srcBuffer src) ich s.samples (s.blocksStart ich)).2 =
        s.blocksStart ich + (s.samples.map (decodedBytes ich)).sum := takeBlocks_cur _ _ _ _ _
    rw [hsum, neededBytes_eq, State.blocksStart]
    split <;> omega
  change execDataDecode ich src s = _
  rw [execDataDecode, if_neg (not_unbound hbound)]
  simp only [hstart, hlast]
  rfl

theorem exec_dataDecode_overrun (hbound : s.d.bound = true)
    (h : s.params.bufBytes < s.a0.toNat + s.a1.toNat ∨ s.a1.toNat < neededBytes s ich) :
    exec (.dataDecode ich src) s = s.failed .overrun := by
  rw [exec_dataDecode_of_bound hbound]
  split
  next => rfl
  next hfit => exact if_pos (h.resolve_left fun hover => hfit (presentedFits_eq_false hover))

theorem exec_dataDecode_of_fits (hbound : s.d.bound = true) (hfit : s.a0.toNat + s.a1.toNat ≤ s.params.bufBytes)
    (hneed : neededBytes s ich ≤ s.a1.toNat) : exec (.dataDecode ich src) s =
      (s.decoded ich (s.decodedSamples ich src)).done (BitVec.ofNat 32 (neededBytes s ich)) 0 := by
  rw [exec_dataDecode_of_bound hbound, presentedFits_eq_true hfit, if_neg Bool.noConfusion, if_neg (Nat.not_lt.2 hneed)]

/-- Settles O45: the layout's places are those at which the sequential reader arrives. -/
theorem dataDecodeReadsEveryValueAtItsPlace : Obligations.DataDecodeReadsEveryValueAtItsPlace := by
  refine ⟨selects_of_row (fun _ _ => rfl) fun w => congrArg₂ Instr.dataDecode (cmd_flag0_eq w) (cmd_source_eq w),
    fun s ich src => ?_⟩
  rw [← srcBuffer_eq_ite]
  intro buf wid db blk need val
  have hneed : need = neededBytes s ich := (neededBytes_eq s ich).symm
  rw [hneed]
  refine ⟨fun hunbound => if_pos hunbound, exec_dataDecode_overrun, fun hbound hfit henough =>
    ⟨s.decodedSamples ich src, exec_dataDecode_of_fits hbound hfit henough, takeBlocks_length _ _ _ _ _,
      fun p x hx => takeBlocks_getElem? s buf ich s.samples _ hx⟩⟩

end Sys2Proof.Machine
end

section
/-! DATA.ENCODE: the DATA frame byte for byte (R117, R302, R306, R307). -/

namespace Sys2Proof.Machine

variable {s t : State}

/-! ### The bytes of a sample -/

/-- A value's own bytes, as many as it has, the most significant first (R301). -/
def Value.bytes : Value → Bytes
  | .int16 h => bytesBe16 h
  | .float32 w => bytesBe32 w

/-- A value of its class's width is emitted whole (R57, R307). -/
theorem emitValue_eq_bytes {wide : Bool} {v : Value} (h : v.fits wide = true) : emitValue wide v = v.bytes := by
  cases v with
  | int16 v =>
    cases wide with
    | false => exact congrArg bytesBe16 (BitVec.setWidth_setWidth_of_le v (by decide))
    | true => cases h
  | float32 w =>
    cases wide with
    | false => cases h
    | true => rfl

/-- A PMU's block, each value in its own width (R306). -/
theorem dataBlock_eq {x : SampleSlot} (h : x.wf = true) : dataBlock x =
    bytesBe16 x.stat ++ x.ph.flatMap (fun c => c.1.bytes ++ c.2.bytes) ++ x.an.flatMap Value.bytes ++
      x.fdev.bytes ++ x.rocof.bytes ++ x.dig.flatMap bytesBe16 := by
  obtain ⟨-, hph, han, hfdev, hrocof⟩ := SampleSlot.wf_iff.1 h
  have hpair : ∀ c ∈ x.ph, emitValue x.snapPhw c.1 ++ emitValue x.snapPhw c.2 = c.1.bytes ++ c.2.bytes := fun c hc => by
    rw [emitValue_eq_bytes (hph c hc).1, emitValue_eq_bytes (hph c hc).2]
  rw [dataBlock, List.flatMap_congr hpair, List.flatMap_congr fun v hv => emitValue_eq_bytes (han v hv),
    emitValue_eq_bytes hfdev, emitValue_eq_bytes hrocof]

/-! ### The outcomes of DATA.ENCODE, in the order of its checks -/

theorem exec_dataEncode_noSample (hbound : s.d.bound = true) (h : s.d.sampleValid = false ∨ s.d.statValid = false) :
    exec .dataEncode s = s.failed .noSample := (if_neg (not_unbound hbound)).trans (if_pos h)

/-- A whole sample leaves the check of the frame's size. -/
theorem exec_dataEncode_of_sample (hbound : s.d.bound = true) (hsample : s.d.sampleValid = true)
    (hstat : s.d.statValid = true) : exec .dataEncode s =
      if frameBytes s > 65535 then s.failed .sizeOverflow
      else s.frameDone (withTrailer s.params.crcShift3 (dataBody s)) := by
  have hvalid : ¬ (s.d.sampleValid = false ∨ s.d.statValid = false) := by
    rw [hsample, hstat]
    exact not_or.2 ⟨Bool.noConfusion, Bool.noConfusion⟩
  exact (if_neg (not_unbound hbound)).trans (if_neg hvalid)

/-- Settles O46: the checks in their order, then the frame, which has the length that was checked. -/
theorem dataEncodeEmitsTheDataFrame : Obligations.DataEncodeEmitsTheDataFrame := by
  refine ⟨selects_of_plainRow fun _ _ => rfl, fun s hinv => ?_⟩
  intro wid size emit block body
  have hsize : frameBytes s = size := rfl
  have hemit : emit = Value.bytes := funext fun v => by cases v <;> rfl
  have hblocks : s.samples.flatMap dataBlock = s.samples.flatMap block :=
    List.flatMap_congr fun x hx => by rw [dataBlock_eq (hinv.samples x hx), ← hemit]
  have hbody : dataBody s = body := by
    rw [dataBody, hblocks]
    rfl
  refine ⟨fun hunbound => if_pos hunbound, exec_dataEncode_noSample, fun hbound hsample hstat => ?_⟩
  rw [exec_dataEncode_of_sample hbound hsample hstat, hsize]
  refine ⟨fun hover => if_pos hover, fun hfit => ?_⟩
  rw [if_neg (Nat.not_lt.2 hfit), ← hbody]
  exact exists_frameDone s ((withTrailer_length _ _).trans (dataBody_length hinv.samples))

end Sys2Proof.Machine
end

section
/-! The round trips of the data codec: a frame that DATA.ENCODE made decodes to the same sample, and a sample that
DATA.DECODE took is encoded with the same bytes (R316). -/

namespace Sys2Proof.Machine

variable {s t : State} {b c : Buffer} {a a' cur n : Nat} {bs bs' : Bytes}

/-! ### Bytes that lie in a buffer -/

/-- The byte sequence lies in the buffer from `a` on. -/
def State.HoldsAt (s : State) (b : Buffer) (a : Nat) (bs : Bytes) : Prop := s.readBytes b a bs.length = bs

theorem holdsAt_nil (s : State) (b : Buffer) (a : Nat) : s.HoldsAt b a [] := rfl

theorem holdsAt_append : s.HoldsAt b a (bs ++ bs') ↔ s.HoldsAt b a bs ∧ s.HoldsAt b (a + bs.length) bs' := by
  unfold State.HoldsAt
  rw [List.length_append, State.readBytes_add]
  exact ⟨fun h => List.append_inj h (State.readBytes_length _ _ _ _), fun ⟨h, h'⟩ => by rw [h, h']⟩

/-- What holds the same bytes reads the same. -/
theorem State.HoldsAt.readBytes_eq (ht : t.HoldsAt c a' bs) (hs : s.HoldsAt b a bs) (hlen : bs.length = n) :
    t.readBytes c a' n = s.readBytes b a n := by
  subst hlen
  exact ht.trans hs.symm

/-- The operand registers are no part of what a buffer holds. -/
theorem State.HoldsAt.withRange (h : s.HoldsAt b a bs) (x y : Word) :
    State.HoldsAt { s with a0 := x, a1 := y } b a bs := (readBytes_withRange s x y b a _).trans h

/-! ### One field -/

theorem bytesBe32_injective : Function.Injective bytesBe32 := fun v w h => by
  have hsplit (z : Word) : z = z.extractLsb' 16 16 ++ z.extractLsb' 0 16 :=
    (BitVec.extractLsb'_append_extractLsb' (w := 16) (len := 16)).symm
  rw [hsplit v, hsplit w, bytesBe32_append, bytesBe32_append] at h
  obtain ⟨hhigh, hlow⟩ := List.append_inj h rfl
  rw [hsplit v, bytesBe16_injective hhigh, bytesBe16_injective hlow, ← hsplit w]

theorem readBytes_four (s : State) (b : Buffer) (a : Nat) : s.readBytes b a 4 = bytesBe32 (s.read32 b a) := by
  rw [State.read32, bytesBe32_append, ← readBytes_two, ← readBytes_two, ← State.readBytes_add]

theorem holdsAt_bytesBe16_iff {h : Half} : s.HoldsAt b a (bytesBe16 h) ↔ s.read16 b a = h := by
  rw [State.HoldsAt, bytesBe16_length, readBytes_two, bytesBe16_injective.eq_iff]

theorem holdsAt_bytesBe32_iff {w : Word} : s.HoldsAt b a (bytesBe32 w) ↔ s.read32 b a = w := by
  rw [State.HoldsAt, bytesBe32_length, readBytes_four, bytesBe32_injective.eq_iff]

theorem holdsAt_emitValue_iff {wide : Bool} {v : Value} (h : v.fits wide = true) :
    s.HoldsAt b a (emitValue wide v) ↔ (takeValue s b wide a).1 = v := by
  rw [emitValue_eq_bytes h, takeValue_fst]
  cases v with
  | int16 v =>
    cases wide with
    | false => exact holdsAt_bytesBe16_iff.trans (Iff.of_eq (Value.int16.injEq _ _).symm)
    | true => cases h
  | float32 w =>
    cases wide with
    | false => cases h
    | true => exact holdsAt_bytesBe32_iff.trans (Iff.of_eq (Value.float32.injEq _ _).symm)

theorem holdsAt_emitPair_iff {wide : Bool} {v : Value × Value} (h : v.1.fits wide = true ∧ v.2.fits wide = true) :
    s.HoldsAt b a (emitValue wide v.1 ++ emitValue wide v.2) ↔ (takePair s b wide a).1 = v := by
  rw [holdsAt_append, holdsAt_emitValue_iff h.1, holdsAt_emitValue_iff h.2, emitValue_length, takePair, takeValue_cur,
    Prod.ext_iff]

/-! ### Many items, a block and all blocks

Where the bytes of items lie, the items are what is taken from there, and the other way round. -/

theorem holdsAt_flatMap_iff {α : Type} {one : Nat → α × Nat} {emit : α → Bytes} {valid : α → Prop} {k : Nat}
    (hcur : ∀ cur, (one cur).2 = cur + k) (hlen : ∀ v, (emit v).length = k)
    (h : ∀ v cur, valid v → (s.HoldsAt b cur (emit v) ↔ (one cur).1 = v)) {l : List α} (hl : ∀ v ∈ l, valid v)
    (hn : l.length = n) (cur : Nat) : s.HoldsAt b cur (l.flatMap emit) ↔ (takeMany one n cur).1 = l := by
  subst hn
  induction l generalizing cur with
  | nil => exact iff_of_true (holdsAt_nil s b cur) rfl
  | cons v vs ih =>
    obtain ⟨hv, hvs⟩ := List.forall_mem_cons.1 hl
    rw [List.flatMap_cons, holdsAt_append, h v cur hv, hlen, ih hvs, List.length_cons, takeMany, hcur, List.cons.injEq]

/-- A slot whose sample is replaced is the same slot exactly when the sample is the same. -/
theorem SampleSlot.withSample_eq_self_iff {x : SampleSlot} {stat : Half} {ph : List (Value × Value)} {an : List Value}
    {fdev rocof : Value} {dig : List Half} :
    { x with stat := stat, ph := ph, an := an, fdev := fdev, rocof := rocof, dig := dig } = x ↔
      stat = x.stat ∧ ph = x.ph ∧ an = x.an ∧ fdev = x.fdev ∧ rocof = x.rocof ∧ dig = x.dig := by
  cases x
  simp only [SampleSlot.mk.injEq, true_and]

/-- The parts of a block, in R306's order, lie where the reader arrives. -/
theorem holdsAt_dataBlock_iff {x : SampleSlot} (hwf : x.wf = true) (cur : Nat) :
    s.HoldsAt b cur (dataBlock x) ↔ (takeBlock s b true x cur).1 = x := by
  obtain ⟨⟨hnph, hnan, hnst⟩, hph, han, hfdev, hrocof⟩ := SampleSlot.wf_iff.1 hwf
  have hpair (c : Value × Value) :
      (emitValue x.snapPhw c.1 ++ emitValue x.snapPhw c.2).length = 2 * widthOf x.snapPhw := by
    rw [List.length_append, emitValue_length, emitValue_length, Nat.two_mul]
  have hpairs := holdsAt_flatMap_iff (takePair_cur s b x.snapPhw) hpair (fun _ _ => holdsAt_emitPair_iff) hph hnph
  have hvalues := holdsAt_flatMap_iff (takeValue_cur s b x.snapAnw) (emitValue_length _)
    (fun _ _ => holdsAt_emitValue_iff) han hnan
  have hhalves := holdsAt_flatMap_iff (takeHalf_cur s b) bytesBe16_length (valid := fun _ => True)
    (fun _ _ _ => holdsAt_bytesBe16_iff) (fun _ _ => trivial) hnst
  rw [takeBlock, SampleSlot.withSample_eq_self_iff]
  simp only [dataBlock, holdsAt_append, List.length_append, bytesBe16_length, emitValue_length,
    length_flatMap_of_length_eq hpair, length_flatMap_of_length_eq (emitValue_length _), hnph, hnan,
    holdsAt_bytesBe16_iff, hpairs, hvalues, holdsAt_emitValue_iff hfdev, holdsAt_emitValue_iff hrocof, hhalves,
    if_true, takeHalf_fst, takeHalf_cur, takeMany_cur _ _ (takePair_cur s b x.snapPhw),
    takeMany_cur _ _ (takeValue_cur s b x.snapAnw), takeValue_cur, Nat.mul_comm x.snapNph.toNat,
    Nat.mul_comm x.snapNan.toNat, Nat.add_assoc, and_assoc]

theorem holdsAt_dataBlocks_iff {xs : List SampleSlot} (hwf : ∀ x ∈ xs, x.wf = true) (cur : Nat) :
    s.HoldsAt b cur (xs.flatMap dataBlock) ↔ (takeBlocks s b true xs cur).1 = xs := by
  induction xs generalizing cur with
  | nil => exact iff_of_true (holdsAt_nil s b cur) rfl
  | cons x xs ih =>
    obtain ⟨hx, hxs⟩ := List.forall_mem_cons.1 hwf
    rw [List.flatMap_cons, holdsAt_append, holdsAt_dataBlock_iff hx, dataBlock_length hx, ih hxs, takeBlocks,
      takeBlock_cur, if_pos rfl, List.cons.injEq]

/-- With STAT in the bytes, all that a decode takes of a slot is its snapshot. -/
theorem takeBlocks_takeBlocks (s : State) (b : Buffer) (xs : List SampleSlot) (cur : Nat) :
    takeBlocks s b true (takeBlocks s b true xs cur).1 cur = takeBlocks s b true xs cur := by
  induction xs generalizing cur with
  | nil => rfl
  | cons x xs ih =>
    have hblock : takeBlock s b true (takeBlock s b true x cur).1 cur = takeBlock s b true x cur := rfl
    simp only [takeBlocks, hblock, ih]

/-- The blocks that a decode takes are encoded with the bytes that they were taken from. -/
theorem holdsAt_takeBlocks (s : State) (b : Buffer) (xs : List SampleSlot) (cur : Nat) :
    s.HoldsAt b cur ((takeBlocks s b true xs cur).1.flatMap dataBlock) :=
  (holdsAt_dataBlocks_iff (takeBlocks_wf s b true xs cur) cur).2 (congrArg Prod.fst (takeBlocks_takeBlocks s b xs cur))

/-! ### A DATA frame in `TXB` -/

/-- A frame's body lies at the beginning of `TXB`. -/
theorem EmitsFrame.holdsAt {sync : Half} {body : Bytes} (hf : EmitsFrame s t sync body) : t.HoldsAt .txb 0 body := by
  have hread := readBytes_emitFrame s body (bytesBe16 (crc16 s.params.crcShift3 body))
  rw [hf.next]
  exact (State.readBytes_congr fun _ _ => State.readByte_ended _ _ _ _ _ _).trans hread

/-- A DATA frame's SYNC word and size, then its id and timestamp, then the blocks (R117). -/
theorem dataBody_eq (s : State) : dataBody s =
    (bytesBe16 0xAA01 ++ bytesBe16 (BitVec.ofNat 16 (frameBytes s))) ++
    ((bytesBe16 s.g.idCode ++ bytesBe32 s.g.epochSeconds ++ bytesBe32 s.g.fracOfSecond) ++
      s.samples.flatMap dataBlock) := by
  simp only [dataBody, commonHeader, List.append_assoc]

/-- The parts of a DATA frame that its decode and the round trip speak of. -/
theorem holdsAt_dataBody (h : t.HoldsAt .txb 0 (dataBody s)) :
    t.HoldsAt .txb 4 ((bytesBe16 s.g.idCode ++ bytesBe32 s.g.epochSeconds ++ bytesBe32 s.g.fracOfSecond) ++
      s.samples.flatMap dataBlock) ∧ t.HoldsAt .txb 14 (s.samples.flatMap dataBlock) := by
  rw [dataBody_eq] at h
  obtain ⟨-, hrest⟩ := holdsAt_append.1 h
  exact ⟨hrest, (holdsAt_append.1 hrest).2⟩

/-- A DATA.ENCODE that ends with `OK` had a whole sample (R307). -/
theorem sample_of_dataEncode (hok : t.status = 0) (h : exec .dataEncode s = .next t) :
    s.d.bound = true ∧ s.d.sampleValid = true ∧ s.d.statValid = true := by
  obtain ⟨hbound, h⟩ := of_check_ok hok h
  obtain ⟨hvalid, -⟩ := of_check_ok hok h
  obtain ⟨hsample, hstat⟩ := not_or.1 hvalid
  exact ⟨Bool.eq_true_of_not_eq_false hbound, Bool.eq_true_of_not_eq_false hsample,
    Bool.eq_true_of_not_eq_false hstat⟩

/-- A frame's `TX_LEN` is `FRAME` (R302, R307). -/
theorem txLen_dataEncode (hinv : s.Inv) (hf : EmitsFrame s t 0xAA01 (dataBody s)) : t.txLen.toNat = frameBytes s :=
  hf.txLen_toNat.trans (dataBody_length hinv.samples)

/-! ### Encode, then decode -/

theorem Codec.eq_of_valid {d : Codec} (hsample : d.sampleValid = true) (hstat : d.statValid = true) :
    { d with sampleValid := true, statValid := true } = d := by
  cases d
  cases hsample
  cases hstat
  rfl

/-- A decode that takes the sample as it was changes no register (R305). -/
theorem State.decoded_self (hsample : s.d.sampleValid = true) (hstat : s.d.statValid = true) (hcur : s.cur = none) :
    s.decoded true s.samples = s := by
  rw [State.decoded, if_pos rfl, Codec.eq_of_valid hsample hstat, ← hcur]

/-- HDR.SIZE returns an emitted frame's length (R261, R316). -/
theorem EmitsFrame.exec_hdrSize {sync : Half} {body : Bytes} (hf : EmitsFrame s t sync body)
    (hbuf : t.params.bufBytes = 65536) :
    exec (.hdrSize .txb) t.presentingTx = t.presentingTx.done (t.txLen.setWidth 32) 0 := by
  have hsize := hf.size_ge
  rw [← hf.txLen_toNat] at hsize
  have hread : t.presentingTx.read16 .txb 2 = t.txLen := hf.read16_two
  rw [← hread]
  exact extraction_eq_body (State.presentingTx_fits hbuf) (by rw [t.presentingTx_a1]; omega)

/-- The state that presents the frame in `TXB` to DATA.DECODE, without its SYNC word (R305). -/
def State.presentingPayload (t : State) : State := { t with a0 := 2, a1 := BitVec.ofNat 32 (t.txLen.toNat - 2) }

theorem State.presentingPayload_a1 (t : State) : t.presentingPayload.a1.toNat = t.txLen.toNat - 2 := by
  have hlt := t.txLen.isLt
  exact Nat.mod_eq_of_lt (by omega)

/-- The payload of a frame that lies in `TXB` decodes to the slots whose blocks it holds. -/
theorem exec_dataDecode_payload (hbuf : t.params.bufBytes = 65536) (hbound : t.d.bound = true)
    (hwf : ∀ x ∈ t.samples, x.wf = true) (hlen : t.txLen.toNat = frameBytes t)
    (hblocks : t.HoldsAt .txb 14 (t.samples.flatMap dataBlock)) :
    exec (.dataDecode true .txb) t.presentingPayload =
      (t.presentingPayload.decoded true t.samples).done (BitVec.ofNat 32 (t.txLen.toNat - 2)) 0 := by
  have hlt := t.txLen.isLt
  have hfit : t.presentingPayload.a0.toNat + t.presentingPayload.a1.toNat ≤ t.presentingPayload.params.bufBytes := by
    rw [t.presentingPayload_a1, show t.presentingPayload.params.bufBytes = 65536 from hbuf]
    change 2 + (t.txLen.toNat - 2) ≤ 65536
    omega
  have hneed : neededBytes t.presentingPayload true = t.txLen.toNat - 2 := by rw [hlen]; rfl
  have hsamples : t.presentingPayload.decodedSamples true .txb = t.samples :=
    (holdsAt_dataBlocks_iff hwf 14).1 (hblocks.withRange _ _)
  have hdecode := exec_dataDecode_of_fits (ich := true) (src := .txb) (s := t.presentingPayload) hbound hfit
    (by rw [hneed, t.presentingPayload_a1])
  rwa [hneed, hsamples] at hdecode

/-- DATA.SIZE of a frame whose length `TX_LEN` holds (R308). -/
theorem exec_dataSize_txLen (hbound : t.d.bound = true) (hlen : t.txLen.toNat = frameBytes t) :
    exec (.dataSize 0) t = t.done (t.txLen.setWidth 32) 0 := by
  have hlt := t.txLen.isLt
  rw [exec_dataSize_frame hbound, done64, ← hlen, BitVec.ofNat_toNat, Nat.div_eq_of_lt (by omega)]
  rfl

/-- Settles O47: the frame holds the blocks of the sample, and it is a frame as every emitted one. -/
theorem encodedDataFrameDecodesToTheSameSample : Obligations.EncodedDataFrameDecodesToTheSameSample := by
  intro s t hinv h hok
  have hf := EmitsFrame.of_dataEncode hinv hok h
  have htinv : t.Inv := (exec_effect h).inv hinv
  obtain ⟨-, hbuf, -⟩ := Params.wf_iff.1 htinv.params
  obtain ⟨hbound, hsample, hstat⟩ := sample_of_dataEncode hok h
  obtain ⟨hd, hsamples⟩ := (exec_effect h).codec_eq rfl
  obtain ⟨-, hblocks⟩ := holdsAt_dataBody hf.holdsAt
  have hlen : t.txLen.toNat = frameBytes t := by rw [txLen_dataEncode hinv hf, frameBytes, ← hsamples, frameBytes]
  rw [← hd] at hbound hsample hstat
  rw [← hsamples] at hblocks
  refine ⟨?_, hf.exec_crcCheck hbuf, hf.exec_hdrType hbuf (b0 := 0xAA) (b1 := 0x01) rfl nofun, hf.exec_hdrSize hbuf,
    exec_dataSize_txLen hbound hlen⟩
  have hkept : t.presentingPayload.decoded true t.samples = t.presentingPayload :=
    State.decoded_self (s := t.presentingPayload) hsample hstat htinv.cur
  refine (exec_dataDecode_payload hbuf hbound htinv.samples hlen hblocks).trans ?_
  rw [hkept]
  rfl

/-! ### Decode, then encode -/

/-- A decode keeps the layout, and so the number of bytes to encode (R302). -/
theorem length_takeBlocks (s : State) (b : Buffer) (xs : List SampleSlot) (cur : Nat) :
    ((takeBlocks s b true xs cur).1.flatMap dataBlock).length = (xs.map blockBytes).sum := by
  induction xs generalizing cur with
  | nil => rfl
  | cons x xs ih =>
    have hblock : blockBytes (takeBlock s b true x cur).1 = blockBytes x := rfl
    rw [takeBlocks, List.flatMap_cons, List.length_append, dataBlock_length (takeBlock_wf s b true x cur), hblock, ih,
      List.map_cons, List.sum_cons]

/-- A DATA.DECODE that ends with `OK` took the blocks from the bytes after the four header fields, and it reports what it
consumed: those fields, the blocks and the CRC (R305). -/
theorem dataDecode_ok {src : Source} (hok : t.status = 0) (h : exec (.dataDecode true src) s = .next t) :
    s.HoldsAt (srcBuffer src) (s.a0.toNat + 12) (t.samples.flatMap dataBlock) ∧ t.g = s.g ∧
    t.r0.toNat = (t.samples.flatMap dataBlock).length + 14 := by
  obtain ⟨hbound, -⟩ := of_check_ok hok h
  rw [exec_dataDecode_of_bound (Bool.eq_true_of_not_eq_false hbound)] at h
  obtain ⟨-, h⟩ := of_check_ok hok h
  obtain ⟨hneed, h⟩ := of_check_ok hok h
  obtain rfl := done_next h
  have hlen : neededBytes s true = ((s.decodedSamples true src).flatMap dataBlock).length + 14 := by
    rw [neededBytes_eq, State.decodedSamples, length_takeBlocks]
    rfl
  have ha1 := s.a1.isLt
  have hword : (BitVec.ofNat 32 (neededBytes s true)).toNat = neededBytes s true := Nat.mod_eq_of_lt (by omega)
  exact ⟨holdsAt_takeBlocks s (srcBuffer src) s.samples (s.blocksStart true), rfl, hword.trans hlen⟩

/-- Settles O48: the frame and the decoded bytes hold the same blocks, and with `G` the frame's own the same fields. -/
theorem decodedDataFrameIsEncodedWithItsOwnBytes : Obligations.DecodedDataFrameIsEncodedWithItsOwnBytes := by
  intro s t u src hinv hdec htok henc huok o n
  have hf := EmitsFrame.of_dataEncode ((exec_effect hdec).inv hinv) huok henc
  obtain ⟨hblocks, hg, hlen⟩ := dataDecode_ok htok hdec
  obtain ⟨hfields, hframe⟩ := holdsAt_dataBody hf.holdsAt
  have hn : n = (t.samples.flatMap dataBlock).length + 14 := hlen
  refine ⟨?_, hframe.readBytes_eq hblocks (by omega), fun hid hsoc hfrac => hfields.readBytes_eq ?_ ?_⟩
  · rw [hf.txLen_toNat, dataBody, List.length_append, commonHeader_length]
    omega
  · rw [hg]
    exact holdsAt_append.2 ⟨holdsAt_append.2 ⟨holdsAt_append.2
      ⟨holdsAt_bytesBe16_iff.2 hid.symm, holdsAt_bytesBe32_iff.2 hsoc.symm⟩, holdsAt_bytesBe32_iff.2 hfrac.symm⟩, hblocks⟩
  · simp only [List.length_append, bytesBe16_length, bytesBe32_length]
    omega

end Sys2Proof.Machine
end

section
/-! How an operation ends: in a next state with a status code of R340, and if it fails, with nothing else written but what a
failed DATA.BIND writes (R80, R340 to R342); and the idle block (R350). -/

namespace Sys2Proof.Machine

variable {i : Instr} {s t : State}

/-- What two runs of an operation have in common is a next state: neither stops. -/
theorem SameAnswer.exists_next {n : Half} {r r' : Result} (h : SameAnswer i s n r r') : ∃ t, r = .next t := by
  cases h with
  | kept => exact ⟨_, rfl⟩
  | emitted t => exact ⟨t, rfl⟩

theorem exec_exists_next (i : Instr) (s : State) : ∃ t, exec i s = .next t :=
  (exec_withOutputs i s s.status s.r0 s.r1 s.txLen).exists_next

/-- An operation succeeds, or fails with nothing else written, or is a failed bind, which unbinds the codec (R341). -/
theorem Effect.ok_or_fail (he : Effect i s t) : t.status = 0 ∨ (∃ e : Failure, t = s.fail e) ∨
    (i = .dataBind ∧ t = (s.withCodec Codec.unbound []).fail .allocationFailure) := by
  cases he with
  | failed e => exact .inr (.inl ⟨e, rfl⟩)
  | unbound hbind => exact .inr (.inr ⟨hbind, rfl⟩)
  | _ => exact .inl rfl

theorem Effect.status_le (he : Effect i s t) : t.status.toNat ≤ 14 := by
  obtain hok | ⟨e, rfl⟩ | ⟨-, rfl⟩ := he.ok_or_fail
  · rw [hok]; exact Nat.zero_le 14
  · exact e.code_le
  · exact Failure.allocationFailure.code_le

/-- Settles O52: the operation answers, and its effect leaves 0 or the code of a failure. -/
theorem everyOperationEndsWithAStatusCode : Obligations.EveryOperationEndsWithAStatusCode := by
  intro i s
  obtain ⟨t, ht⟩ := exec_exists_next i s
  exact ⟨t, ht, (exec_effect ht).status_le⟩

/-- Settles O53: of the three ways an operation can end, a non-zero `STATUS` leaves the two failures. -/
theorem aFailedOperationChangesNothingElse : Obligations.AFailedOperationChangesNothingElse := by
  intro i s t h hstatus
  obtain hok | ⟨e, rfl⟩ | hbind := (exec_effect h).ok_or_fail
  · exact absurd hok hstatus
  · exact .inl rfl
  · exact .inr hbind

/-- Settles O5. -/
theorem idleBlockChangesNothing : Obligations.IdleBlockChangesNothing := fun _ => step_idle

end Sys2Proof.Machine
end
